-- ==== Sys2Proof/Word.lean ====
section
/-! DEFINITION. The word types of the uPD70108/uPD70116 (spec 00_scope.md, 10_state.md R30). -/

namespace Sys2Proof

/-- A byte: the unit of the memory space and of the I/O space (R80, R96). -/
abbrev Byte := BitVec 8

/-- A word: the width of every register, offset and segment value (R30, R37, R38). -/
abbrev Word := BitVec 16

/-- A physical memory address: 20 bits (R80, R83). -/
abbrev PhysAddr := BitVec 20

end Sys2Proof
end

