-- ==== Sys2Proof/Machine/Bits.lean ====
section
/-! DEFINITION. Byte order and sign extension: the helpers that the decoder and the meanings share. -/

namespace Sys2Proof

/-- The low byte of a word, bits 7 to 0 (R30, R86). -/
def loByte (x : Word) : Byte := x.setWidth 8

/-- The high byte of a word, bits 15 to 8 (R30, R86). -/
def hiByte (x : Word) : Byte := x.extractLsb' 8 8

/-- The word of a high and a low byte (R30, R86). -/
def mkWord (hi lo : Byte) : Word := hi ++ lo

/-- `sext_16` of a byte (R141). -/
def sext16 (b : Byte) : Word := b.signExtend 16

/-- Zero extension of a byte to a word. -/
def zext16 (b : Byte) : Word := b.setWidth 16

/-- The two bytes of a 16-bit quantity in the instruction stream: low byte first (R132). -/
def wordBytes (x : Word) : List Byte := [loByte x, hiByte x]

end Sys2Proof
end

