-- ==== Sys2Proof/Syntax.lean ====
section
/-! DEFINITION. The instructions as syntax: operand forms, and one constructor for each row of spec/opcode_table.json
(spec 30_encoding.md). Prefix bytes are rows of the table and so constructors of their own. -/

namespace Sys2Proof

/-- The W field: byte (0) or word (1) (R133, R138). -/
inductive Width
  | byte
  | word
deriving DecidableEq, Repr

/-- How many bits an operand of this width has (R138). -/
abbrev Width.bits : Width → Nat
  | .byte => 8
  | .word => 16

/-- How many bytes an operand of this width has (R138). -/
def Width.bytes : Width → Nat
  | .byte => 1
  | .word => 2

/-- The 3-bit `reg` field (R33). A constructor carries both of the names that the field has: the 8-bit register it
names with W = 0 and the 16-bit register it names with W = 1. -/
inductive Reg
  | al_aw
  | cl_cw
  | dl_dw
  | bl_bw
  | ah_sp
  | ch_bp
  | dh_ix
  | bh_iy
deriving DecidableEq, Repr

/-- The 2-bit `sreg` field (R36). -/
inductive Sreg
  | ds1
  | ps
  | ss
  | ds0
deriving DecidableEq, Repr

/-- The register sums of Table 12-5, one for each value of the `mem` field (R140). -/
inductive AddrForm
  | bw_ix
  | bw_iy
  | bp_ix
  | bp_iy
  | ix
  | iy
  | bp
  | bw
deriving DecidableEq, Repr

/-- A memory operand of the operand byte, mod = 00, 01 or 10 (R134, R140). -/
inductive Mem
  /-- mod = 00: the registers alone. The slot of `bp` is the direct address, so `ind .bp` is ill formed. -/
  | ind (f : AddrForm)
  /-- mod = 01: the registers and a sign-extended 8-bit displacement. -/
  | disp8 (f : AddrForm) (disp : Byte)
  /-- mod = 10: the registers and a 16-bit displacement. -/
  | disp16 (f : AddrForm) (disp : Word)
  /-- mod = 00, mem = 110: the two bytes are the offset. -/
  | direct (addr : Word)
deriving DecidableEq, Repr

/-- What the operand byte names: a register (mod = 11) or a memory operand (R134, R145). -/
inductive RM
  | reg (r : Reg)
  | mem (m : Mem)
deriving DecidableEq, Repr

/-- The `sW` bits of the immediate group 80H to 83H (R152 (a), R301). -/
inductive SW
  /-- 80H: byte operation, one immediate byte. -/
  | b80
  /-- 81H: word operation, two immediate bytes. -/
  | w81
  /-- 82H: byte operation, one immediate byte. -/
  | b82
  /-- 83H: word operation, one immediate byte, sign-extended. -/
  | w83
deriving DecidableEq, Repr

/-- The operation width of `sW` (R301). -/
abbrev SW.width : SW → Width
  | .b80 | .b82 => .byte
  | .w81 | .w83 => .word

/-- The four repeat conditions (R242 to R245). -/
inductive Rep
  /-- F3H: REP, REPE, REPZ. -/
  | rep
  /-- F2H: REPNE, REPNZ. -/
  | repne
  /-- 65H: REPC. -/
  | repc
  /-- 64H: REPNC. -/
  | repnc
deriving DecidableEq, Repr

/-- The eight operations of `00ooo0dW` and of the immediate group, in the order of `ooo` (R152 (a)). -/
inductive AluOp
  | add
  | or
  | addc
  | subc
  | and
  | sub
  | xor
  | cmp
deriving DecidableEq, Repr

/-- The shift and rotate operations (R152 (b)). -/
inductive ShiftOp
  | rol
  | ror
  | rolc
  | rorc
  | shl
  | shr
  | shra
deriving DecidableEq, Repr

/-- The single-bit operations, in the order of `oo` (R151). -/
inductive BitOp
  | test1
  | clr1
  | set1
  | not1
deriving DecidableEq, Repr

/-- Why bytes are no instruction. The spec assigns no meaning to them (R153). -/
inductive DecodeError
  /-- The bytes end inside an instruction. Never at a step, whose window is as long as the longest instruction. -/
  | truncated
  /-- 63H, D6H or F1H as first byte. -/
  | unassignedOpcode
  /-- 0FH and a second byte that no listing assigns. -/
  | unassignedSecond
  /-- A sub-opcode `ooo` that no listing assigns to its group. -/
  | unassignedSub
  /-- A register where the operation needs an address (R146). -/
  | registerOperand
  /-- A memory operand where the operation names registers only (INS, EXT). -/
  | memoryOperand
  /-- MOV to PS (R153). -/
  | psDestination
  /-- D4H or D5H and a second byte other than 0AH. -/
  | secondByteNot0A
  /-- In emulation mode: an 8080 instruction, whose set the spec leaves out (R155, R722). -/
  | emulationOpcode
deriving DecidableEq, Repr

/-- One constructor for each row of spec/opcode_table.json. `w` is the W field, `d` the destination of a register to
register form, `r` a register, `m` a memory operand, `imm` an immediate (a byte immediate is held zero-extended),
`i` an immediate byte, `disp` a displacement from PC, `sr` a segment register. -/
inductive Instr
  /-- MOV_reg_reg: `1000101W 11 reg reg'` (R201). -/
  | movRegReg (w : Width) (d : Reg) (r : Reg)
  /-- MOV_mem_reg: `1000100W mod reg mem (disp-low) (disp-high)` (R202). -/
  | movMemReg (w : Width) (m : Mem) (r : Reg)
  /-- MOV_reg_mem: `1000101W mod reg mem (disp-low) (disp-high)` (R203). -/
  | movRegMem (w : Width) (r : Reg) (m : Mem)
  /-- MOV_mem_imm: `1100011W mod 000 mem (disp-low) (disp-high) imm` (R204). -/
  | movMemImm (w : Width) (m : Mem) (imm : Word)
  /-- MOV_reg_imm: `1011 W reg imm` (R205). -/
  | movRegImm (w : Width) (r : Reg) (imm : Word)
  /-- MOV_acc_dmem: `1010000W addr-low addr-high` (R206). -/
  | movAccDmem (w : Width) (addr : Word)
  /-- MOV_dmem_acc: `1010001W addr-low addr-high` (R207). -/
  | movDmemAcc (w : Width) (addr : Word)
  /-- MOV_sreg_reg16: `10001110 11 0 sreg reg` (R208). -/
  | movSregReg16 (sr : Sreg) (r : Reg)
  /-- MOV_sreg_mem16: `10001110 mod 0 sreg mem (disp-low) (disp-high)` (R209). -/
  | movSregMem16 (sr : Sreg) (m : Mem)
  /-- MOV_reg16_sreg: `10001100 11 0 sreg reg` (R210). -/
  | movReg16Sreg (r : Reg) (sr : Sreg)
  /-- MOV_mem16_sreg: `10001100 mod 0 sreg mem (disp-low) (disp-high)` (R211). -/
  | movMem16Sreg (m : Mem) (sr : Sreg)
  /-- MOV_DS0_reg16_mem32: `11000101 mod reg mem (disp-low) (disp-high)` (R212). -/
  | movDs0Reg16Mem32 (r : Reg) (m : Mem)
  /-- MOV_DS1_reg16_mem32: `11000100 mod reg mem (disp-low) (disp-high)` (R213). -/
  | movDs1Reg16Mem32 (r : Reg) (m : Mem)
  /-- MOV_AH_PSW: `10011111` (R214). -/
  | movAhPsw
  /-- MOV_PSW_AH: `10011110` (R215). -/
  | movPswAh
  /-- LDEA_reg16_mem16: `10001101 mod reg mem (disp-low) (disp-high)` (R216). -/
  | ldea (r : Reg) (m : Mem)
  /-- TRANS: `11010111` (R217). -/
  | trans
  /-- XCH_reg_reg: `1000011W 11 reg reg` (R218). -/
  | xchRegReg (w : Width) (d : Reg) (r : Reg)
  /-- XCH_mem_reg: `1000011W mod reg mem (disp-low) (disp-high)` (R219). -/
  | xchMemReg (w : Width) (m : Mem) (r : Reg)
  /-- XCH_AW_reg16: `10010 reg` (R220). -/
  | xchAwReg16 (r : Reg)
  /-- REPC: `01100101` (R242). -/
  | repc
  /-- REPNC: `01100100` (R243). -/
  | repnc
  /-- REP: `11110011` (R244). -/
  | rep
  /-- REPNE: `11110010` (R245). -/
  | repne
  /-- MOVBK: `1010010W` (R249). -/
  | movbk (w : Width)
  /-- CMPBK: `1010011W` (R250). -/
  | cmpbk (w : Width)
  /-- CMPM: `1010111W` (R251). -/
  | cmpm (w : Width)
  /-- LDM: `1010110W` (R252). -/
  | ldm (w : Width)
  /-- STM: `1010101W` (R253). -/
  | stm (w : Width)
  /-- INS_reg1_reg2: `00001111 00110001 11 reg2 reg1` (R256). -/
  | insReg8Reg8 (r1 : Reg) (r2 : Reg)
  /-- INS_reg8_imm4: `00001111 00111001 11 000 reg imm4` (R257). -/
  | insReg8Imm4 (r : Reg) (i : Byte)
  /-- EXT_reg1_reg2: `00001111 00110011 11 reg2 reg1` (R258). -/
  | extReg8Reg8 (r1 : Reg) (r2 : Reg)
  /-- EXT_reg8_imm4: `00001111 00111011 11 000 reg imm4` (R259). -/
  | extReg8Imm4 (r : Reg) (i : Byte)
  /-- IN_acc_imm8: `1110010W imm8` (R260). -/
  | inAccImm8 (w : Width) (port : Byte)
  /-- IN_acc_DW: `1110110W` (R261). -/
  | inAccDw (w : Width)
  /-- OUT_imm8_acc: `1110011W imm8` (R262). -/
  | outImm8Acc (w : Width) (port : Byte)
  /-- OUT_DW_acc: `1110111W` (R263). -/
  | outDwAcc (w : Width)
  /-- INM_dst-block_DW: `0110110W` (R264). -/
  | inm (w : Width)
  /-- OUTM_DW_src-block: `0110111W` (R265). -/
  | outm (w : Width)
  /-- ADD_reg_reg: `0000001W 11 reg reg'` (R304). -/
  | addRegReg (w : Width) (d : Reg) (r : Reg)
  /-- ADD_mem_reg: `0000000W mod reg mem (disp-low) (disp-high)` (R305). -/
  | addMemReg (w : Width) (m : Mem) (r : Reg)
  /-- ADD_reg_mem: `0000001W mod reg mem (disp-low) (disp-high)` (R306). -/
  | addRegMem (w : Width) (r : Reg) (m : Mem)
  /-- ADD_reg_imm: `100000sW 11 000 reg imm` (R307). -/
  | addRegImm (sw : SW) (r : Reg) (imm : Word)
  /-- ADD_mem_imm: `100000sW mod 000 mem (disp-low) (disp-high) imm` (R308). -/
  | addMemImm (sw : SW) (m : Mem) (imm : Word)
  /-- ADD_acc_imm: `0000010W imm` (R309). -/
  | addAccImm (w : Width) (imm : Word)
  /-- ADDC_reg_reg: `0001001W 11 reg reg'` (R310). -/
  | addcRegReg (w : Width) (d : Reg) (r : Reg)
  /-- ADDC_mem_reg: `0001000W mod reg mem (disp-low) (disp-high)` (R311). -/
  | addcMemReg (w : Width) (m : Mem) (r : Reg)
  /-- ADDC_reg_mem: `0001001W mod reg mem (disp-low) (disp-high)` (R312). -/
  | addcRegMem (w : Width) (r : Reg) (m : Mem)
  /-- ADDC_reg_imm: `100000sW 11 010 reg imm` (R313). -/
  | addcRegImm (sw : SW) (r : Reg) (imm : Word)
  /-- ADDC_mem_imm: `100000sW mod 010 mem (disp-low) (disp-high) imm` (R314). -/
  | addcMemImm (sw : SW) (m : Mem) (imm : Word)
  /-- ADDC_acc_imm: `0001010W imm` (R315). -/
  | addcAccImm (w : Width) (imm : Word)
  /-- SUB_reg_reg: `0010101W 11 reg reg'` (R316). -/
  | subRegReg (w : Width) (d : Reg) (r : Reg)
  /-- SUB_mem_reg: `0010100W mod reg mem (disp-low) (disp-high)` (R317). -/
  | subMemReg (w : Width) (m : Mem) (r : Reg)
  /-- SUB_reg_mem: `0010101W mod reg mem (disp-low) (disp-high)` (R318). -/
  | subRegMem (w : Width) (r : Reg) (m : Mem)
  /-- SUB_reg_imm: `100000sW 11 101 reg imm` (R319). -/
  | subRegImm (sw : SW) (r : Reg) (imm : Word)
  /-- SUB_mem_imm: `100000sW mod 101 mem (disp-low) (disp-high) imm` (R320). -/
  | subMemImm (sw : SW) (m : Mem) (imm : Word)
  /-- SUB_acc_imm: `0010110W imm` (R321). -/
  | subAccImm (w : Width) (imm : Word)
  /-- SUBC_reg_reg: `0001101W 11 reg reg'` (R322). -/
  | subcRegReg (w : Width) (d : Reg) (r : Reg)
  /-- SUBC_mem_reg: `0001100W mod reg mem (disp-low) (disp-high)` (R323). -/
  | subcMemReg (w : Width) (m : Mem) (r : Reg)
  /-- SUBC_reg_mem: `0001101W mod reg mem (disp-low) (disp-high)` (R324). -/
  | subcRegMem (w : Width) (r : Reg) (m : Mem)
  /-- SUBC_reg_imm: `100000sW 11 011 reg imm` (R325). -/
  | subcRegImm (sw : SW) (r : Reg) (imm : Word)
  /-- SUBC_mem_imm: `100000sW mod 011 mem (disp-low) (disp-high) imm` (R326). -/
  | subcMemImm (sw : SW) (m : Mem) (imm : Word)
  /-- SUBC_acc_imm: `0001110W imm` (R327). -/
  | subcAccImm (w : Width) (imm : Word)
  /-- ADD4S: `00001111 00100000` (R332). -/
  | add4s
  /-- SUB4S: `00001111 00100010` (R333). -/
  | sub4s
  /-- CMP4S: `00001111 00100110` (R334). -/
  | cmp4s
  /-- ROL4_reg8: `00001111 00101000 11 000 reg` (R341). -/
  | rol4Reg8 (r : Reg)
  /-- ROL4_mem8: `00001111 00101000 mod 000 mem (disp-low) (disp-high)` (R342). -/
  | rol4Mem8 (m : Mem)
  /-- ROR4_reg8: `00001111 00101010 11 000 reg` (R343). -/
  | ror4Reg8 (r : Reg)
  /-- ROR4_mem8: `00001111 00101010 mod 000 mem (disp-low) (disp-high)` (R344). -/
  | ror4Mem8 (m : Mem)
  /-- INC_reg8: `11111110 11 000 reg` (R351). -/
  | incReg8 (r : Reg)
  /-- INC_mem: `1111111W mod 000 mem (disp-low) (disp-high)` (R352). -/
  | incMem (w : Width) (m : Mem)
  /-- INC_reg16: `01000 reg` (R353). -/
  | incReg16 (r : Reg)
  /-- DEC_reg8: `11111110 11 001 reg` (R354). -/
  | decReg8 (r : Reg)
  /-- DEC_mem: `1111111W mod 001 mem (disp-low) (disp-high)` (R355). -/
  | decMem (w : Width) (m : Mem)
  /-- DEC_reg16: `01001 reg` (R356). -/
  | decReg16 (r : Reg)
  /-- MULU_reg8: `11110110 11 100 reg` (R361). -/
  | muluReg8 (r : Reg)
  /-- MULU_mem8: `11110110 mod 100 mem (disp-low) (disp-high)` (R362). -/
  | muluMem8 (m : Mem)
  /-- MULU_reg16: `11110111 11 100 reg` (R363). -/
  | muluReg16 (r : Reg)
  /-- MULU_mem16: `11110111 mod 100 mem (disp-low) (disp-high)` (R364). -/
  | muluMem16 (m : Mem)
  /-- MUL_reg8: `11110110 11 101 reg` (R365). -/
  | mulReg8 (r : Reg)
  /-- MUL_mem8: `11110110 mod 101 mem (disp-low) (disp-high)` (R366). -/
  | mulMem8 (m : Mem)
  /-- MUL_reg16: `11110111 11 101 reg` (R367). -/
  | mulReg16 (r : Reg)
  /-- MUL_mem16: `11110111 mod 101 mem (disp-low) (disp-high)` (R368). -/
  | mulMem16 (m : Mem)
  /-- MUL_reg16_reg16_imm8: `01101011 11 reg reg' imm8` (R370). -/
  | mulReg16Reg16Imm8 (d : Reg) (r : Reg) (i : Byte)
  /-- MUL_reg16_mem16_imm8: `01101011 mod reg mem (disp-low) (disp-high) imm8` (R371). -/
  | mulReg16Mem16Imm8 (d : Reg) (m : Mem) (i : Byte)
  /-- MUL_reg16_reg16_imm16: `01101001 11 reg reg' imm16-low imm16-high` (R372). -/
  | mulReg16Reg16Imm16 (d : Reg) (r : Reg) (imm : Word)
  /-- MUL_reg16_mem16_imm16: `01101001 mod reg mem (disp-low) (disp-high) imm16-low imm16-high` (R373). -/
  | mulReg16Mem16Imm16 (d : Reg) (m : Mem) (imm : Word)
  /-- DIVU_reg8: `11110110 11 110 reg` (R382). -/
  | divuReg8 (r : Reg)
  /-- DIVU_mem8: `11110110 mod 110 mem (disp-low) (disp-high)` (R383). -/
  | divuMem8 (m : Mem)
  /-- DIVU_reg16: `11110111 11 110 reg` (R384). -/
  | divuReg16 (r : Reg)
  /-- DIVU_mem16: `11110111 mod 110 mem (disp-low) (disp-high)` (R385). -/
  | divuMem16 (m : Mem)
  /-- DIV_reg8: `11110110 11 111 reg` (R386). -/
  | divReg8 (r : Reg)
  /-- DIV_mem8: `11110110 mod 111 mem (disp-low) (disp-high)` (R387). -/
  | divMem8 (m : Mem)
  /-- DIV_reg16: `11110111 11 111 reg` (R388). -/
  | divReg16 (r : Reg)
  /-- DIV_mem16: `11110111 mod 111 mem (disp-low) (disp-high)` (R389). -/
  | divMem16 (m : Mem)
  /-- ADJBA: `00110111` (R391). -/
  | adjba
  /-- ADJ4A: `00100111` (R392). -/
  | adj4a
  /-- ADJBS: `00111111` (R393). -/
  | adjbs
  /-- ADJ4S: `00101111` (R394). -/
  | adj4s
  /-- CVTBD: `11010100 00001010` (R400). -/
  | cvtbd
  /-- CVTDB: `11010101 00001010` (R401). -/
  | cvtdb
  /-- CVTBW: `10011000` (R402). -/
  | cvtbw
  /-- CVTWL: `10011001` (R403). -/
  | cvtwl
  /-- CMP_reg_reg: `0011101W 11 reg reg'` (R421). -/
  | cmpRegReg (w : Width) (d : Reg) (r : Reg)
  /-- CMP_mem_reg: `0011100W mod reg mem (disp-low) (disp-high)` (R422). -/
  | cmpMemReg (w : Width) (m : Mem) (r : Reg)
  /-- CMP_reg_mem: `0011101W mod reg mem (disp-low) (disp-high)` (R423). -/
  | cmpRegMem (w : Width) (r : Reg) (m : Mem)
  /-- CMP_reg_imm: `100000sW 11 111 reg imm` (R424). -/
  | cmpRegImm (sw : SW) (r : Reg) (imm : Word)
  /-- CMP_mem_imm: `100000sW mod 111 mem (disp-low) (disp-high) imm` (R425). -/
  | cmpMemImm (sw : SW) (m : Mem) (imm : Word)
  /-- CMP_acc_imm: `0011110W imm` (R426). -/
  | cmpAccImm (w : Width) (imm : Word)
  /-- NOT_reg: `1111011W 11 010 reg` (R427). -/
  | notReg (w : Width) (r : Reg)
  /-- NOT_mem: `1111011W mod 010 mem (disp-low) (disp-high)` (R428). -/
  | notMem (w : Width) (m : Mem)
  /-- NEG_reg: `1111011W 11 011 reg` (R429). -/
  | negReg (w : Width) (r : Reg)
  /-- NEG_mem: `1111011W mod 011 mem (disp-low) (disp-high)` (R430). -/
  | negMem (w : Width) (m : Mem)
  /-- TEST_reg_reg: `1000010W 11 reg reg'` (R433). -/
  | testRegReg (w : Width) (d : Reg) (r : Reg)
  /-- TEST_mem_reg: `1000010W mod reg mem (disp-low) (disp-high)` (R434). -/
  | testMemReg (w : Width) (m : Mem) (r : Reg)
  /-- TEST_reg_imm: `1111011W 11 000 reg imm` (R435). -/
  | testRegImm (w : Width) (r : Reg) (imm : Word)
  /-- TEST_mem_imm: `1111011W mod 000 mem (disp-low) (disp-high) imm` (R436). -/
  | testMemImm (w : Width) (m : Mem) (imm : Word)
  /-- TEST_acc_imm: `1010100W imm` (R437). -/
  | testAccImm (w : Width) (imm : Word)
  /-- AND_reg_reg: `0010001W 11 reg reg'` (R438). -/
  | andRegReg (w : Width) (d : Reg) (r : Reg)
  /-- AND_mem_reg: `0010000W mod reg mem (disp-low) (disp-high)` (R439). -/
  | andMemReg (w : Width) (m : Mem) (r : Reg)
  /-- AND_reg_mem: `0010001W mod reg mem (disp-low) (disp-high)` (R440). -/
  | andRegMem (w : Width) (r : Reg) (m : Mem)
  /-- AND_reg_imm: `1000000W 11 100 reg imm` (R441). -/
  | andRegImm (w : Width) (r : Reg) (imm : Word)
  /-- AND_mem_imm: `1000000W mod 100 mem (disp-low) (disp-high) imm` (R442). -/
  | andMemImm (w : Width) (m : Mem) (imm : Word)
  /-- AND_acc_imm: `0010010W imm` (R443). -/
  | andAccImm (w : Width) (imm : Word)
  /-- OR_reg_reg: `0000101W 11 reg reg'` (R444). -/
  | orRegReg (w : Width) (d : Reg) (r : Reg)
  /-- OR_mem_reg: `0000100W mod reg mem (disp-low) (disp-high)` (R445). -/
  | orMemReg (w : Width) (m : Mem) (r : Reg)
  /-- OR_reg_mem: `0000101W mod reg mem (disp-low) (disp-high)` (R446). -/
  | orRegMem (w : Width) (r : Reg) (m : Mem)
  /-- OR_reg_imm: `1000000W 11 001 reg imm` (R447). -/
  | orRegImm (w : Width) (r : Reg) (imm : Word)
  /-- OR_mem_imm: `1000000W mod 001 mem (disp-low) (disp-high) imm` (R448). -/
  | orMemImm (w : Width) (m : Mem) (imm : Word)
  /-- OR_acc_imm: `0000110W imm` (R449). -/
  | orAccImm (w : Width) (imm : Word)
  /-- XOR_reg_reg: `0011001W 11 reg reg'` (R450). -/
  | xorRegReg (w : Width) (d : Reg) (r : Reg)
  /-- XOR_mem_reg: `0011000W mod reg mem (disp-low) (disp-high)` (R451). -/
  | xorMemReg (w : Width) (m : Mem) (r : Reg)
  /-- XOR_reg_mem: `0011001W mod reg mem (disp-low) (disp-high)` (R452). -/
  | xorRegMem (w : Width) (r : Reg) (m : Mem)
  /-- XOR_reg_imm: `1000000W 11 110 reg imm` (R453). -/
  | xorRegImm (w : Width) (r : Reg) (imm : Word)
  /-- XOR_mem_imm: `1000000W mod 110 mem (disp-low) (disp-high) imm` (R454). -/
  | xorMemImm (w : Width) (m : Mem) (imm : Word)
  /-- XOR_acc_imm: `0011010W imm` (R455). -/
  | xorAccImm (w : Width) (imm : Word)
  /-- TEST1_reg8_CL: `00001111 00010000 11 000 reg` (R473). -/
  | test1Reg8Cl (r : Reg)
  /-- TEST1_mem8_CL: `00001111 00010000 mod 000 mem (disp-low) (disp-high)` (R474). -/
  | test1Mem8Cl (m : Mem)
  /-- TEST1_reg16_CL: `00001111 00010001 11 000 reg` (R475). -/
  | test1Reg16Cl (r : Reg)
  /-- TEST1_mem16_CL: `00001111 00010001 mod 000 mem (disp-low) (disp-high)` (R476). -/
  | test1Mem16Cl (m : Mem)
  /-- TEST1_reg8_imm3: `00001111 00011000 11 000 reg imm3` (R477). -/
  | test1Reg8Imm (r : Reg) (i : Byte)
  /-- TEST1_mem8_imm3: `00001111 00011000 mod 000 mem (disp-low) (disp-high) imm3` (R478). -/
  | test1Mem8Imm (m : Mem) (i : Byte)
  /-- TEST1_reg16_imm4: `00001111 00011001 11 000 reg imm4` (R479). -/
  | test1Reg16Imm (r : Reg) (i : Byte)
  /-- TEST1_mem16_imm4: `00001111 00011001 mod 000 mem (disp-low) (disp-high) imm4` (R480). -/
  | test1Mem16Imm (m : Mem) (i : Byte)
  /-- NOT1_reg8_CL: `00001111 00010110 11 000 reg` (R481). -/
  | not1Reg8Cl (r : Reg)
  /-- NOT1_mem8_CL: `00001111 00010110 mod 000 mem (disp-low) (disp-high)` (R482). -/
  | not1Mem8Cl (m : Mem)
  /-- NOT1_reg16_CL: `00001111 00010111 11 000 reg` (R483). -/
  | not1Reg16Cl (r : Reg)
  /-- NOT1_mem16_CL: `00001111 00010111 mod 000 mem (disp-low) (disp-high)` (R484). -/
  | not1Mem16Cl (m : Mem)
  /-- NOT1_reg8_imm3: `00001111 00011110 11 000 reg imm3` (R485). -/
  | not1Reg8Imm (r : Reg) (i : Byte)
  /-- NOT1_mem8_imm3: `00001111 00011110 mod 000 mem (disp-low) (disp-high) imm3` (R486). -/
  | not1Mem8Imm (m : Mem) (i : Byte)
  /-- NOT1_reg16_imm4: `00001111 00011111 11 000 reg imm4` (R487). -/
  | not1Reg16Imm (r : Reg) (i : Byte)
  /-- NOT1_mem16_imm4: `00001111 00011111 mod 000 mem (disp-low) (disp-high) imm4` (R488). -/
  | not1Mem16Imm (m : Mem) (i : Byte)
  /-- NOT1_CY: `11110101` (R489). -/
  | not1Cy
  /-- CLR1_reg8_CL: `00001111 00010010 11 000 reg` (R490). -/
  | clr1Reg8Cl (r : Reg)
  /-- CLR1_mem8_CL: `00001111 00010010 mod 000 mem (disp-low) (disp-high)` (R491). -/
  | clr1Mem8Cl (m : Mem)
  /-- CLR1_reg16_CL: `00001111 00010011 11 000 reg` (R492). -/
  | clr1Reg16Cl (r : Reg)
  /-- CLR1_mem16_CL: `00001111 00010011 mod 000 mem (disp-low) (disp-high)` (R493). -/
  | clr1Mem16Cl (m : Mem)
  /-- CLR1_reg8_imm3: `00001111 00011010 11 000 reg imm3` (R494). -/
  | clr1Reg8Imm (r : Reg) (i : Byte)
  /-- CLR1_mem8_imm3: `00001111 00011010 mod 000 mem (disp-low) (disp-high) imm3` (R495). -/
  | clr1Mem8Imm (m : Mem) (i : Byte)
  /-- CLR1_reg16_imm4: `00001111 00011011 11 000 reg imm4` (R496). -/
  | clr1Reg16Imm (r : Reg) (i : Byte)
  /-- CLR1_mem16_imm4: `00001111 00011011 mod 000 mem (disp-low) (disp-high) imm4` (R497). -/
  | clr1Mem16Imm (m : Mem) (i : Byte)
  /-- CLR1_CY: `11111000` (R498). -/
  | clr1Cy
  /-- CLR1_DIR: `11111100` (R499). -/
  | clr1Dir
  /-- SET1_reg8_CL: `00001111 00010100 11 000 reg` (R500). -/
  | set1Reg8Cl (r : Reg)
  /-- SET1_mem8_CL: `00001111 00010100 mod 000 mem (disp-low) (disp-high)` (R501). -/
  | set1Mem8Cl (m : Mem)
  /-- SET1_reg16_CL: `00001111 00010101 11 000 reg` (R502). -/
  | set1Reg16Cl (r : Reg)
  /-- SET1_mem16_CL: `00001111 00010101 mod 000 mem (disp-low) (disp-high)` (R503). -/
  | set1Mem16Cl (m : Mem)
  /-- SET1_reg8_imm3: `00001111 00011100 11 000 reg imm3` (R504). -/
  | set1Reg8Imm (r : Reg) (i : Byte)
  /-- SET1_mem8_imm3: `00001111 00011100 mod 000 mem (disp-low) (disp-high) imm3` (R505). -/
  | set1Mem8Imm (m : Mem) (i : Byte)
  /-- SET1_reg16_imm4: `00001111 00011101 11 000 reg imm4` (R506). -/
  | set1Reg16Imm (r : Reg) (i : Byte)
  /-- SET1_mem16_imm4: `00001111 00011101 mod 000 mem (disp-low) (disp-high) imm4` (R507). -/
  | set1Mem16Imm (m : Mem) (i : Byte)
  /-- SET1_CY: `11111001` (R508). -/
  | set1Cy
  /-- SET1_DIR: `11111101` (R509). -/
  | set1Dir
  /-- SHL_reg_1: `1101000W 11 100 reg` (R525). -/
  | shlReg1 (w : Width) (r : Reg)
  /-- SHL_mem_1: `1101000W mod 100 mem (disp-low) (disp-high)` (R526). -/
  | shlMem1 (w : Width) (m : Mem)
  /-- SHL_reg_CL: `1101001W 11 100 reg` (R527). -/
  | shlRegCl (w : Width) (r : Reg)
  /-- SHL_mem_CL: `1101001W mod 100 mem (disp-low) (disp-high)` (R528). -/
  | shlMemCl (w : Width) (m : Mem)
  /-- SHL_reg_imm8: `1100000W 11 100 reg imm8` (R529). -/
  | shlRegImm8 (w : Width) (r : Reg) (i : Byte)
  /-- SHL_mem_imm8: `1100000W mod 100 mem (disp-low) (disp-high) imm8` (R530). -/
  | shlMemImm8 (w : Width) (m : Mem) (i : Byte)
  /-- SHR_reg_1: `1101000W 11 101 reg` (R531). -/
  | shrReg1 (w : Width) (r : Reg)
  /-- SHR_mem_1: `1101000W mod 101 mem (disp-low) (disp-high)` (R532). -/
  | shrMem1 (w : Width) (m : Mem)
  /-- SHR_reg_CL: `1101001W 11 101 reg` (R533). -/
  | shrRegCl (w : Width) (r : Reg)
  /-- SHR_mem_CL: `1101001W mod 101 mem (disp-low) (disp-high)` (R534). -/
  | shrMemCl (w : Width) (m : Mem)
  /-- SHR_reg_imm8: `1100000W 11 101 reg imm8` (R535). -/
  | shrRegImm8 (w : Width) (r : Reg) (i : Byte)
  /-- SHR_mem_imm8: `1100000W mod 101 mem (disp-low) (disp-high) imm8` (R536). -/
  | shrMemImm8 (w : Width) (m : Mem) (i : Byte)
  /-- SHRA_reg_1: `1101000W 11 111 reg` (R537). -/
  | shraReg1 (w : Width) (r : Reg)
  /-- SHRA_mem_1: `1101000W mod 111 mem (disp-low) (disp-high)` (R538). -/
  | shraMem1 (w : Width) (m : Mem)
  /-- SHRA_reg_CL: `1101001W 11 111 reg` (R539). -/
  | shraRegCl (w : Width) (r : Reg)
  /-- SHRA_mem_CL: `1101001W mod 111 mem (disp-low) (disp-high)` (R540). -/
  | shraMemCl (w : Width) (m : Mem)
  /-- SHRA_reg_imm8: `1100000W 11 111 reg imm8` (R541). -/
  | shraRegImm8 (w : Width) (r : Reg) (i : Byte)
  /-- SHRA_mem_imm8: `1100000W mod 111 mem (disp-low) (disp-high) imm8` (R542). -/
  | shraMemImm8 (w : Width) (m : Mem) (i : Byte)
  /-- ROL_reg_1: `1101000W 11 000 reg` (R543). -/
  | rolReg1 (w : Width) (r : Reg)
  /-- ROL_mem_1: `1101000W mod 000 mem (disp-low) (disp-high)` (R544). -/
  | rolMem1 (w : Width) (m : Mem)
  /-- ROL_reg_CL: `1101001W 11 000 reg` (R545). -/
  | rolRegCl (w : Width) (r : Reg)
  /-- ROL_mem_CL: `1101001W mod 000 mem (disp-low) (disp-high)` (R546). -/
  | rolMemCl (w : Width) (m : Mem)
  /-- ROL_reg_imm8: `1100000W 11 000 reg imm8` (R547). -/
  | rolRegImm8 (w : Width) (r : Reg) (i : Byte)
  /-- ROL_mem_imm8: `1100000W mod 000 mem (disp-low) (disp-high) imm8` (R548). -/
  | rolMemImm8 (w : Width) (m : Mem) (i : Byte)
  /-- ROR_reg_1: `1101000W 11 001 reg` (R549). -/
  | rorReg1 (w : Width) (r : Reg)
  /-- ROR_mem_1: `1101000W mod 001 mem (disp-low) (disp-high)` (R550). -/
  | rorMem1 (w : Width) (m : Mem)
  /-- ROR_reg_CL: `1101001W 11 001 reg` (R551). -/
  | rorRegCl (w : Width) (r : Reg)
  /-- ROR_mem_CL: `1101001W mod 001 mem (disp-low) (disp-high)` (R552). -/
  | rorMemCl (w : Width) (m : Mem)
  /-- ROR_reg_imm8: `1100000W 11 001 reg imm8` (R553). -/
  | rorRegImm8 (w : Width) (r : Reg) (i : Byte)
  /-- ROR_mem_imm8: `1100000W mod 001 mem (disp-low) (disp-high) imm8` (R554). -/
  | rorMemImm8 (w : Width) (m : Mem) (i : Byte)
  /-- ROLC_reg_1: `1101000W 11 010 reg` (R555). -/
  | rolcReg1 (w : Width) (r : Reg)
  /-- ROLC_mem_1: `1101000W mod 010 mem (disp-low) (disp-high)` (R556). -/
  | rolcMem1 (w : Width) (m : Mem)
  /-- ROLC_reg_CL: `1101001W 11 010 reg` (R557). -/
  | rolcRegCl (w : Width) (r : Reg)
  /-- ROLC_mem_CL: `1101001W mod 010 mem (disp-low) (disp-high)` (R558). -/
  | rolcMemCl (w : Width) (m : Mem)
  /-- ROLC_reg_imm8: `1100000W 11 010 reg imm8` (R559). -/
  | rolcRegImm8 (w : Width) (r : Reg) (i : Byte)
  /-- ROLC_mem_imm8: `1100000W mod 010 mem (disp-low) (disp-high) imm8` (R560). -/
  | rolcMemImm8 (w : Width) (m : Mem) (i : Byte)
  /-- RORC_reg_1: `1101000W 11 011 reg` (R561). -/
  | rorcReg1 (w : Width) (r : Reg)
  /-- RORC_mem_1: `1101000W mod 011 mem (disp-low) (disp-high)` (R562). -/
  | rorcMem1 (w : Width) (m : Mem)
  /-- RORC_reg_CL: `1101001W 11 011 reg` (R563). -/
  | rorcRegCl (w : Width) (r : Reg)
  /-- RORC_mem_CL: `1101001W mod 011 mem (disp-low) (disp-high)` (R564). -/
  | rorcMemCl (w : Width) (m : Mem)
  /-- RORC_reg_imm8: `1100000W 11 011 reg imm8` (R565). -/
  | rorcRegImm8 (w : Width) (r : Reg) (i : Byte)
  /-- RORC_mem_imm8: `1100000W mod 011 mem (disp-low) (disp-high) imm8` (R566). -/
  | rorcMemImm8 (w : Width) (m : Mem) (i : Byte)
  /-- CALL_near-proc: `11101000 disp-low disp-high` (R601). -/
  | callNear (disp : Word)
  /-- CALL_regptr16: `11111111 11 010 reg` (R602). -/
  | callReg16 (r : Reg)
  /-- CALL_memptr16: `11111111 mod 010 mem (disp-low) (disp-high)` (R603). -/
  | callMem16 (m : Mem)
  /-- CALL_far-proc: `10011010 offset-low offset-high seg-low seg-high` (R604). -/
  | callFar (off : Word) (seg : Word)
  /-- CALL_memptr32: `11111111 mod 011 mem (disp-low) (disp-high)` (R605). -/
  | callMem32 (m : Mem)
  /-- RET__same_segment: `11000011` (R606). -/
  | retNear
  /-- RET_pop-value__same_segment: `11000010 pop-value-low pop-value-high` (R607). -/
  | retNearPop (n : Word)
  /-- RET__external_segment: `11001011` (R608). -/
  | retFar
  /-- RET_pop-value__external_segment: `11001010 pop-value-low pop-value-high` (R609). -/
  | retFarPop (n : Word)
  /-- BR_near-label: `11101001 disp-low disp-high` (R610). -/
  | brNear (disp : Word)
  /-- BR_short-label: `11101011 disp8` (R611). -/
  | brShort (disp : Byte)
  /-- BR_regptr16: `11111111 11 100 reg` (R612). -/
  | brReg16 (r : Reg)
  /-- BR_memptr16: `11111111 mod 100 mem (disp-low) (disp-high)` (R613). -/
  | brMem16 (m : Mem)
  /-- BR_far-label: `11101010 offset-low offset-high seg-low seg-high` (R614). -/
  | brFar (off : Word) (seg : Word)
  /-- BR_memptr32: `11111111 mod 101 mem (disp-low) (disp-high)` (R615). -/
  | brMem32 (m : Mem)
  /-- PUSH_mem16: `11111111 mod 110 mem (disp-low) (disp-high)` (R633). -/
  | pushMem16 (m : Mem)
  /-- PUSH_reg16: `01010 reg` (R634). -/
  | pushReg16 (r : Reg)
  /-- PUSH_sreg: `000 sreg 110` (R635). -/
  | pushSreg (sr : Sreg)
  /-- PUSH_PSW: `10011100` (R636). -/
  | pushPsw
  /-- PUSH_R: `01100000` (R637). -/
  | pushR
  /-- PUSH_imm8: `01101010 imm8` (R638). -/
  | pushImm8 (i : Byte)
  /-- PUSH_imm16: `01101000 imm16-low imm16-high` (R639). -/
  | pushImm16 (imm : Word)
  /-- POP_mem16: `10001111 mod 000 mem (disp-low) (disp-high)` (R641). -/
  | popMem16 (m : Mem)
  /-- POP_reg16: `01011 reg` (R642). -/
  | popReg16 (r : Reg)
  /-- POP_sreg: `000 sreg 111` (R643). -/
  | popSreg (sr : Sreg)
  /-- POP_PSW: `10011101` (R646). -/
  | popPsw
  /-- POP_R: `01100001` (R647). -/
  | popR
  /-- PREPARE_imm16_imm8: `11001000 imm16-low imm16-high imm8` (R648). -/
  | prepare (size : Word) (level : Byte)
  /-- DISPOSE: `11001001` (R649). -/
  | dispose
  /-- BV_short-label: `01110000 disp8` (R651). -/
  | bv (disp : Byte)
  /-- BNV_short-label: `01110001 disp8` (R652). -/
  | bnv (disp : Byte)
  /-- BC_short-label: `01110010 disp8` (R653). -/
  | bc (disp : Byte)
  /-- BNC_short-label: `01110011 disp8` (R654). -/
  | bnc (disp : Byte)
  /-- BE_short-label: `01110100 disp8` (R655). -/
  | be (disp : Byte)
  /-- BNE_short-label: `01110101 disp8` (R656). -/
  | bne (disp : Byte)
  /-- BNH_short-label: `01110110 disp8` (R657). -/
  | bnh (disp : Byte)
  /-- BH_short-label: `01110111 disp8` (R658). -/
  | bh (disp : Byte)
  /-- BN_short-label: `01111000 disp8` (R659). -/
  | bn (disp : Byte)
  /-- BP_short-label: `01111001 disp8` (R660). -/
  | bp (disp : Byte)
  /-- BPE_short-label: `01111010 disp8` (R661). -/
  | bpe (disp : Byte)
  /-- BPO_short-label: `01111011 disp8` (R662). -/
  | bpo (disp : Byte)
  /-- BLT_short-label: `01111100 disp8` (R663). -/
  | blt (disp : Byte)
  /-- BGE_short-label: `01111101 disp8` (R664). -/
  | bge (disp : Byte)
  /-- BLE_short-label: `01111110 disp8` (R665). -/
  | ble (disp : Byte)
  /-- BGT_short-label: `01111111 disp8` (R666). -/
  | bgt (disp : Byte)
  /-- DBNZNE_short-label: `11100000 disp8` (R667). -/
  | dbnzne (disp : Byte)
  /-- DBNZE_short-label: `11100001 disp8` (R668). -/
  | dbnze (disp : Byte)
  /-- DBNZ_short-label: `11100010 disp8` (R669). -/
  | dbnz (disp : Byte)
  /-- BCWZ_short-label: `11100011 disp8` (R617). -/
  | bcwz (disp : Byte)
  /-- BRK_3: `11001100` (R671). -/
  | brk3
  /-- BRK_imm8: `11001101 imm8` (R672). -/
  | brkImm8 (n : Byte)
  /-- BRKV: `11001110` (R673). -/
  | brkv
  /-- RETI: `11001111` (R674). -/
  | reti
  /-- BRKEM_imm8: `00001111 11111111 imm8` (R675). -/
  | brkem (n : Byte)
  /-- CHKIND_reg16_mem32: `01100010 mod reg mem (disp-low) (disp-high)` (R676). -/
  | chkind (r : Reg) (m : Mem)
  /-- HALT: `11110100` (R690). -/
  | halt
  /-- DI: `11111010` (R691). -/
  | di
  /-- POLL: `10011011` (R692). -/
  | poll
  /-- EI: `11111011` (R693). -/
  | ei
  /-- BUSLOCK: `11110000` (R694). -/
  | buslock
  /-- NOP: `10010000` (R696). -/
  | nop
  /-- FPO1_fp-op: `11011XXX 11YYYZZZ` (R700). -/
  | fpo1 (x : BitVec 3) (y : BitVec 3) (z : BitVec 3)
  /-- FPO1_fp-op_mem: `11011XXX mod YYY mem (disp-low) (disp-high)` (R701). -/
  | fpo1Mem (x : BitVec 3) (y : BitVec 3) (m : Mem)
  /-- FPO2_fp-op: `0110011X 11YYYZZZ` (R702). -/
  | fpo2 (x : Bool) (y : BitVec 3) (z : BitVec 3)
  /-- FPO2_fp-op_mem: `0110011X mod YYY mem (disp-low) (disp-high)` (R703). -/
  | fpo2Mem (x : Bool) (y : BitVec 3) (m : Mem)
  /-- segment_override_prefix: `001 sreg 110` (R710). -/
  | segOverride (sr : Sreg)
  /-- CALLN_imm8: `11101101 11101101 imm8` (R727). -/
  | calln (n : Byte)
  /-- RETEM: `11101101 11111101` (R728). -/
  | retem
  /-- MOV_reg__reg__d___0_form: `1000100W 11 reg reg'` (R202). -/
  | movRegRegAlt (w : Width) (d : Reg) (r : Reg)
  /-- MOV_reg_imm__C6H_C7H_form: `1100011W 11 000 reg imm` (R204). -/
  | movRegImmAlt (w : Width) (r : Reg) (imm : Word)
  /-- ADD_reg__reg__d___0_form: `0000000W 11 reg reg'` (R305). -/
  | addRegRegAlt (w : Width) (d : Reg) (r : Reg)
  /-- ADDC_reg__reg__d___0_form: `0001000W 11 reg reg'` (R311). -/
  | addcRegRegAlt (w : Width) (d : Reg) (r : Reg)
  /-- SUB_reg__reg__d___0_form: `0010100W 11 reg reg'` (R317). -/
  | subRegRegAlt (w : Width) (d : Reg) (r : Reg)
  /-- SUBC_reg__reg__d___0_form: `0001100W 11 reg reg'` (R323). -/
  | subcRegRegAlt (w : Width) (d : Reg) (r : Reg)
  /-- INC_reg16__FFH_form: `11111111 11 000 reg` (R352). -/
  | incReg16Alt (r : Reg)
  /-- DEC_reg16__FFH_form: `11111111 11 001 reg` (R355). -/
  | decReg16Alt (r : Reg)
  /-- CMP_reg__reg__d___0_form: `0011100W 11 reg reg'` (R422). -/
  | cmpRegRegAlt (w : Width) (d : Reg) (r : Reg)
  /-- AND_reg__reg__d___0_form: `0010000W 11 reg reg'` (R439). -/
  | andRegRegAlt (w : Width) (d : Reg) (r : Reg)
  /-- AND_reg_imm__82H_83H_form: `1000001W 11 100 reg imm` (R441). -/
  | andRegImmAlt (w : Width) (r : Reg) (i : Byte)
  /-- AND_mem_imm__82H_83H_form: `1000001W mod 100 mem (disp-low) (disp-high) imm` (R442). -/
  | andMemImmAlt (w : Width) (m : Mem) (i : Byte)
  /-- OR_reg__reg__d___0_form: `0000100W 11 reg reg'` (R445). -/
  | orRegRegAlt (w : Width) (d : Reg) (r : Reg)
  /-- OR_reg_imm__82H_83H_form: `1000001W 11 001 reg imm` (R447). -/
  | orRegImmAlt (w : Width) (r : Reg) (i : Byte)
  /-- OR_mem_imm__82H_83H_form: `1000001W mod 001 mem (disp-low) (disp-high) imm` (R448). -/
  | orMemImmAlt (w : Width) (m : Mem) (i : Byte)
  /-- XOR_reg__reg__d___0_form: `0011000W 11 reg reg'` (R451). -/
  | xorRegRegAlt (w : Width) (d : Reg) (r : Reg)
  /-- XOR_reg_imm__82H_83H_form: `1000001W 11 110 reg imm` (R453). -/
  | xorRegImmAlt (w : Width) (r : Reg) (i : Byte)
  /-- XOR_mem_imm__82H_83H_form: `1000001W mod 110 mem (disp-low) (disp-high) imm` (R454). -/
  | xorMemImmAlt (w : Width) (m : Mem) (i : Byte)
  /-- PUSH_reg16__FFH_form: `11111111 11 110 reg` (R633). -/
  | pushReg16Alt (r : Reg)
  /-- POP_reg16__8FH_form: `10001111 11 000 reg` (R641). -/
  | popReg16Alt (r : Reg)
deriving DecidableEq, Repr

end Sys2Proof
end

