-- ==== Sys2Proof/WellFormed.lean ====
section
/-! DEFINITION. Which terms of `Instr` some bytes stand for. Every check is one that the encoding makes. -/

namespace Sys2Proof

/-- mod = 00 has no entry for BP alone: that slot is the direct address (R140). -/
def Mem.wf : Mem → Bool
  | .ind f => f != .bp
  | .disp8 _ _ | .disp16 _ _ | .direct _ => true

/-- A byte immediate is held zero-extended: its high byte is zero (R136). -/
def Width.immOk : Width → Word → Bool
  | .byte, imm => hiByte imm == 0
  | .word, _ => true

/-- The immediate of 80H, 82H and 83H is one byte, held zero-extended (R152 (a)). -/
def SW.immOk : SW → Word → Bool
  | .w81, _ => true
  | .b80, imm | .b82, imm | .w83, imm => hiByte imm == 0

/-- PS is never a destination of MOV or POP (R153, D10). -/
def Sreg.writable : Sreg → Bool
  | .ps => false
  | .ds1 | .ss | .ds0 => true

/-- The term stands for some bytes: the encoder writes them and the decoder reads them back. -/
def Instr.wf : Instr → Bool
  | .movRegReg _ _ _ => true
  | .movMemReg _ m _ => m.wf
  | .movRegMem _ _ m => m.wf
  | .movMemImm w m imm => m.wf && w.immOk imm
  | .movRegImm w _ imm => w.immOk imm
  | .movAccDmem _ _ => true
  | .movDmemAcc _ _ => true
  | .movSregReg16 sr _ => sr.writable
  | .movSregMem16 sr m => sr.writable && m.wf
  | .movReg16Sreg _ _ => true
  | .movMem16Sreg m _ => m.wf
  | .movDs0Reg16Mem32 _ m => m.wf
  | .movDs1Reg16Mem32 _ m => m.wf
  | .movAhPsw => true
  | .movPswAh => true
  | .ldea _ m => m.wf
  | .trans => true
  | .xchRegReg _ _ _ => true
  | .xchMemReg _ m _ => m.wf
  | .xchAwReg16 r => r != .al_aw
  | .repc => true
  | .repnc => true
  | .rep => true
  | .repne => true
  | .movbk _ => true
  | .cmpbk _ => true
  | .cmpm _ => true
  | .ldm _ => true
  | .stm _ => true
  | .insReg8Reg8 _ _ => true
  | .insReg8Imm4 _ _ => true
  | .extReg8Reg8 _ _ => true
  | .extReg8Imm4 _ _ => true
  | .inAccImm8 _ _ => true
  | .inAccDw _ => true
  | .outImm8Acc _ _ => true
  | .outDwAcc _ => true
  | .inm _ => true
  | .outm _ => true
  | .addRegReg _ _ _ => true
  | .addMemReg _ m _ => m.wf
  | .addRegMem _ _ m => m.wf
  | .addRegImm sw _ imm => sw.immOk imm
  | .addMemImm sw m imm => m.wf && sw.immOk imm
  | .addAccImm w imm => w.immOk imm
  | .addcRegReg _ _ _ => true
  | .addcMemReg _ m _ => m.wf
  | .addcRegMem _ _ m => m.wf
  | .addcRegImm sw _ imm => sw.immOk imm
  | .addcMemImm sw m imm => m.wf && sw.immOk imm
  | .addcAccImm w imm => w.immOk imm
  | .subRegReg _ _ _ => true
  | .subMemReg _ m _ => m.wf
  | .subRegMem _ _ m => m.wf
  | .subRegImm sw _ imm => sw.immOk imm
  | .subMemImm sw m imm => m.wf && sw.immOk imm
  | .subAccImm w imm => w.immOk imm
  | .subcRegReg _ _ _ => true
  | .subcMemReg _ m _ => m.wf
  | .subcRegMem _ _ m => m.wf
  | .subcRegImm sw _ imm => sw.immOk imm
  | .subcMemImm sw m imm => m.wf && sw.immOk imm
  | .subcAccImm w imm => w.immOk imm
  | .add4s => true
  | .sub4s => true
  | .cmp4s => true
  | .rol4Reg8 _ => true
  | .rol4Mem8 m => m.wf
  | .ror4Reg8 _ => true
  | .ror4Mem8 m => m.wf
  | .incReg8 _ => true
  | .incMem _ m => m.wf
  | .incReg16 _ => true
  | .decReg8 _ => true
  | .decMem _ m => m.wf
  | .decReg16 _ => true
  | .muluReg8 _ => true
  | .muluMem8 m => m.wf
  | .muluReg16 _ => true
  | .muluMem16 m => m.wf
  | .mulReg8 _ => true
  | .mulMem8 m => m.wf
  | .mulReg16 _ => true
  | .mulMem16 m => m.wf
  | .mulReg16Reg16Imm8 _ _ _ => true
  | .mulReg16Mem16Imm8 _ m _ => m.wf
  | .mulReg16Reg16Imm16 _ _ _ => true
  | .mulReg16Mem16Imm16 _ m _ => m.wf
  | .divuReg8 _ => true
  | .divuMem8 m => m.wf
  | .divuReg16 _ => true
  | .divuMem16 m => m.wf
  | .divReg8 _ => true
  | .divMem8 m => m.wf
  | .divReg16 _ => true
  | .divMem16 m => m.wf
  | .adjba => true
  | .adj4a => true
  | .adjbs => true
  | .adj4s => true
  | .cvtbd => true
  | .cvtdb => true
  | .cvtbw => true
  | .cvtwl => true
  | .cmpRegReg _ _ _ => true
  | .cmpMemReg _ m _ => m.wf
  | .cmpRegMem _ _ m => m.wf
  | .cmpRegImm sw _ imm => sw.immOk imm
  | .cmpMemImm sw m imm => m.wf && sw.immOk imm
  | .cmpAccImm w imm => w.immOk imm
  | .notReg _ _ => true
  | .notMem _ m => m.wf
  | .negReg _ _ => true
  | .negMem _ m => m.wf
  | .testRegReg _ _ _ => true
  | .testMemReg _ m _ => m.wf
  | .testRegImm w _ imm => w.immOk imm
  | .testMemImm w m imm => m.wf && w.immOk imm
  | .testAccImm w imm => w.immOk imm
  | .andRegReg _ _ _ => true
  | .andMemReg _ m _ => m.wf
  | .andRegMem _ _ m => m.wf
  | .andRegImm w _ imm => w.immOk imm
  | .andMemImm w m imm => m.wf && w.immOk imm
  | .andAccImm w imm => w.immOk imm
  | .orRegReg _ _ _ => true
  | .orMemReg _ m _ => m.wf
  | .orRegMem _ _ m => m.wf
  | .orRegImm w _ imm => w.immOk imm
  | .orMemImm w m imm => m.wf && w.immOk imm
  | .orAccImm w imm => w.immOk imm
  | .xorRegReg _ _ _ => true
  | .xorMemReg _ m _ => m.wf
  | .xorRegMem _ _ m => m.wf
  | .xorRegImm w _ imm => w.immOk imm
  | .xorMemImm w m imm => m.wf && w.immOk imm
  | .xorAccImm w imm => w.immOk imm
  | .test1Reg8Cl _ => true
  | .test1Mem8Cl m => m.wf
  | .test1Reg16Cl _ => true
  | .test1Mem16Cl m => m.wf
  | .test1Reg8Imm _ _ => true
  | .test1Mem8Imm m _ => m.wf
  | .test1Reg16Imm _ _ => true
  | .test1Mem16Imm m _ => m.wf
  | .not1Reg8Cl _ => true
  | .not1Mem8Cl m => m.wf
  | .not1Reg16Cl _ => true
  | .not1Mem16Cl m => m.wf
  | .not1Reg8Imm _ _ => true
  | .not1Mem8Imm m _ => m.wf
  | .not1Reg16Imm _ _ => true
  | .not1Mem16Imm m _ => m.wf
  | .not1Cy => true
  | .clr1Reg8Cl _ => true
  | .clr1Mem8Cl m => m.wf
  | .clr1Reg16Cl _ => true
  | .clr1Mem16Cl m => m.wf
  | .clr1Reg8Imm _ _ => true
  | .clr1Mem8Imm m _ => m.wf
  | .clr1Reg16Imm _ _ => true
  | .clr1Mem16Imm m _ => m.wf
  | .clr1Cy => true
  | .clr1Dir => true
  | .set1Reg8Cl _ => true
  | .set1Mem8Cl m => m.wf
  | .set1Reg16Cl _ => true
  | .set1Mem16Cl m => m.wf
  | .set1Reg8Imm _ _ => true
  | .set1Mem8Imm m _ => m.wf
  | .set1Reg16Imm _ _ => true
  | .set1Mem16Imm m _ => m.wf
  | .set1Cy => true
  | .set1Dir => true
  | .shlReg1 _ _ => true
  | .shlMem1 _ m => m.wf
  | .shlRegCl _ _ => true
  | .shlMemCl _ m => m.wf
  | .shlRegImm8 _ _ _ => true
  | .shlMemImm8 _ m _ => m.wf
  | .shrReg1 _ _ => true
  | .shrMem1 _ m => m.wf
  | .shrRegCl _ _ => true
  | .shrMemCl _ m => m.wf
  | .shrRegImm8 _ _ _ => true
  | .shrMemImm8 _ m _ => m.wf
  | .shraReg1 _ _ => true
  | .shraMem1 _ m => m.wf
  | .shraRegCl _ _ => true
  | .shraMemCl _ m => m.wf
  | .shraRegImm8 _ _ _ => true
  | .shraMemImm8 _ m _ => m.wf
  | .rolReg1 _ _ => true
  | .rolMem1 _ m => m.wf
  | .rolRegCl _ _ => true
  | .rolMemCl _ m => m.wf
  | .rolRegImm8 _ _ _ => true
  | .rolMemImm8 _ m _ => m.wf
  | .rorReg1 _ _ => true
  | .rorMem1 _ m => m.wf
  | .rorRegCl _ _ => true
  | .rorMemCl _ m => m.wf
  | .rorRegImm8 _ _ _ => true
  | .rorMemImm8 _ m _ => m.wf
  | .rolcReg1 _ _ => true
  | .rolcMem1 _ m => m.wf
  | .rolcRegCl _ _ => true
  | .rolcMemCl _ m => m.wf
  | .rolcRegImm8 _ _ _ => true
  | .rolcMemImm8 _ m _ => m.wf
  | .rorcReg1 _ _ => true
  | .rorcMem1 _ m => m.wf
  | .rorcRegCl _ _ => true
  | .rorcMemCl _ m => m.wf
  | .rorcRegImm8 _ _ _ => true
  | .rorcMemImm8 _ m _ => m.wf
  | .callNear _ => true
  | .callReg16 _ => true
  | .callMem16 m => m.wf
  | .callFar _ _ => true
  | .callMem32 m => m.wf
  | .retNear => true
  | .retNearPop _ => true
  | .retFar => true
  | .retFarPop _ => true
  | .brNear _ => true
  | .brShort _ => true
  | .brReg16 _ => true
  | .brMem16 m => m.wf
  | .brFar _ _ => true
  | .brMem32 m => m.wf
  | .pushMem16 m => m.wf
  | .pushReg16 _ => true
  | .pushSreg _ => true
  | .pushPsw => true
  | .pushR => true
  | .pushImm8 _ => true
  | .pushImm16 _ => true
  | .popMem16 m => m.wf
  | .popReg16 _ => true
  | .popSreg sr => sr.writable
  | .popPsw => true
  | .popR => true
  | .prepare _ _ => true
  | .dispose => true
  | .bv _ => true
  | .bnv _ => true
  | .bc _ => true
  | .bnc _ => true
  | .be _ => true
  | .bne _ => true
  | .bnh _ => true
  | .bh _ => true
  | .bn _ => true
  | .bp _ => true
  | .bpe _ => true
  | .bpo _ => true
  | .blt _ => true
  | .bge _ => true
  | .ble _ => true
  | .bgt _ => true
  | .dbnzne _ => true
  | .dbnze _ => true
  | .dbnz _ => true
  | .bcwz _ => true
  | .brk3 => true
  | .brkImm8 _ => true
  | .brkv => true
  | .reti => true
  | .brkem _ => true
  | .chkind _ m => m.wf
  | .halt => true
  | .di => true
  | .poll => true
  | .ei => true
  | .buslock => true
  | .nop => true
  | .fpo1 _ _ _ => true
  | .fpo1Mem _ _ m => m.wf
  | .fpo2 _ _ _ => true
  | .fpo2Mem _ _ m => m.wf
  | .segOverride _ => true
  | .calln _ => true
  | .retem => true
  | .movRegRegAlt _ _ _ => true
  | .movRegImmAlt w _ imm => w.immOk imm
  | .addRegRegAlt _ _ _ => true
  | .addcRegRegAlt _ _ _ => true
  | .subRegRegAlt _ _ _ => true
  | .subcRegRegAlt _ _ _ => true
  | .incReg16Alt _ => true
  | .decReg16Alt _ => true
  | .cmpRegRegAlt _ _ _ => true
  | .andRegRegAlt _ _ _ => true
  | .andRegImmAlt _ _ _ => true
  | .andMemImmAlt _ m _ => m.wf
  | .orRegRegAlt _ _ _ => true
  | .orRegImmAlt _ _ _ => true
  | .orMemImmAlt _ m _ => m.wf
  | .xorRegRegAlt _ _ _ => true
  | .xorRegImmAlt _ _ _ => true
  | .xorMemImmAlt _ m _ => m.wf
  | .pushReg16Alt _ => true
  | .popReg16Alt _ => true

/-- The mode in which the decoder reads the instruction's bytes as it (R155): CALLN and RETEM belong to the emulation
mode (false), every other instruction to the native mode (true). -/
def Instr.nativeMode : Instr → Bool
  | .movRegReg _ _ _ => true
  | .movMemReg _ _ _ => true
  | .movRegMem _ _ _ => true
  | .movMemImm _ _ _ => true
  | .movRegImm _ _ _ => true
  | .movAccDmem _ _ => true
  | .movDmemAcc _ _ => true
  | .movSregReg16 _ _ => true
  | .movSregMem16 _ _ => true
  | .movReg16Sreg _ _ => true
  | .movMem16Sreg _ _ => true
  | .movDs0Reg16Mem32 _ _ => true
  | .movDs1Reg16Mem32 _ _ => true
  | .movAhPsw => true
  | .movPswAh => true
  | .ldea _ _ => true
  | .trans => true
  | .xchRegReg _ _ _ => true
  | .xchMemReg _ _ _ => true
  | .xchAwReg16 _ => true
  | .repc => true
  | .repnc => true
  | .rep => true
  | .repne => true
  | .movbk _ => true
  | .cmpbk _ => true
  | .cmpm _ => true
  | .ldm _ => true
  | .stm _ => true
  | .insReg8Reg8 _ _ => true
  | .insReg8Imm4 _ _ => true
  | .extReg8Reg8 _ _ => true
  | .extReg8Imm4 _ _ => true
  | .inAccImm8 _ _ => true
  | .inAccDw _ => true
  | .outImm8Acc _ _ => true
  | .outDwAcc _ => true
  | .inm _ => true
  | .outm _ => true
  | .addRegReg _ _ _ => true
  | .addMemReg _ _ _ => true
  | .addRegMem _ _ _ => true
  | .addRegImm _ _ _ => true
  | .addMemImm _ _ _ => true
  | .addAccImm _ _ => true
  | .addcRegReg _ _ _ => true
  | .addcMemReg _ _ _ => true
  | .addcRegMem _ _ _ => true
  | .addcRegImm _ _ _ => true
  | .addcMemImm _ _ _ => true
  | .addcAccImm _ _ => true
  | .subRegReg _ _ _ => true
  | .subMemReg _ _ _ => true
  | .subRegMem _ _ _ => true
  | .subRegImm _ _ _ => true
  | .subMemImm _ _ _ => true
  | .subAccImm _ _ => true
  | .subcRegReg _ _ _ => true
  | .subcMemReg _ _ _ => true
  | .subcRegMem _ _ _ => true
  | .subcRegImm _ _ _ => true
  | .subcMemImm _ _ _ => true
  | .subcAccImm _ _ => true
  | .add4s => true
  | .sub4s => true
  | .cmp4s => true
  | .rol4Reg8 _ => true
  | .rol4Mem8 _ => true
  | .ror4Reg8 _ => true
  | .ror4Mem8 _ => true
  | .incReg8 _ => true
  | .incMem _ _ => true
  | .incReg16 _ => true
  | .decReg8 _ => true
  | .decMem _ _ => true
  | .decReg16 _ => true
  | .muluReg8 _ => true
  | .muluMem8 _ => true
  | .muluReg16 _ => true
  | .muluMem16 _ => true
  | .mulReg8 _ => true
  | .mulMem8 _ => true
  | .mulReg16 _ => true
  | .mulMem16 _ => true
  | .mulReg16Reg16Imm8 _ _ _ => true
  | .mulReg16Mem16Imm8 _ _ _ => true
  | .mulReg16Reg16Imm16 _ _ _ => true
  | .mulReg16Mem16Imm16 _ _ _ => true
  | .divuReg8 _ => true
  | .divuMem8 _ => true
  | .divuReg16 _ => true
  | .divuMem16 _ => true
  | .divReg8 _ => true
  | .divMem8 _ => true
  | .divReg16 _ => true
  | .divMem16 _ => true
  | .adjba => true
  | .adj4a => true
  | .adjbs => true
  | .adj4s => true
  | .cvtbd => true
  | .cvtdb => true
  | .cvtbw => true
  | .cvtwl => true
  | .cmpRegReg _ _ _ => true
  | .cmpMemReg _ _ _ => true
  | .cmpRegMem _ _ _ => true
  | .cmpRegImm _ _ _ => true
  | .cmpMemImm _ _ _ => true
  | .cmpAccImm _ _ => true
  | .notReg _ _ => true
  | .notMem _ _ => true
  | .negReg _ _ => true
  | .negMem _ _ => true
  | .testRegReg _ _ _ => true
  | .testMemReg _ _ _ => true
  | .testRegImm _ _ _ => true
  | .testMemImm _ _ _ => true
  | .testAccImm _ _ => true
  | .andRegReg _ _ _ => true
  | .andMemReg _ _ _ => true
  | .andRegMem _ _ _ => true
  | .andRegImm _ _ _ => true
  | .andMemImm _ _ _ => true
  | .andAccImm _ _ => true
  | .orRegReg _ _ _ => true
  | .orMemReg _ _ _ => true
  | .orRegMem _ _ _ => true
  | .orRegImm _ _ _ => true
  | .orMemImm _ _ _ => true
  | .orAccImm _ _ => true
  | .xorRegReg _ _ _ => true
  | .xorMemReg _ _ _ => true
  | .xorRegMem _ _ _ => true
  | .xorRegImm _ _ _ => true
  | .xorMemImm _ _ _ => true
  | .xorAccImm _ _ => true
  | .test1Reg8Cl _ => true
  | .test1Mem8Cl _ => true
  | .test1Reg16Cl _ => true
  | .test1Mem16Cl _ => true
  | .test1Reg8Imm _ _ => true
  | .test1Mem8Imm _ _ => true
  | .test1Reg16Imm _ _ => true
  | .test1Mem16Imm _ _ => true
  | .not1Reg8Cl _ => true
  | .not1Mem8Cl _ => true
  | .not1Reg16Cl _ => true
  | .not1Mem16Cl _ => true
  | .not1Reg8Imm _ _ => true
  | .not1Mem8Imm _ _ => true
  | .not1Reg16Imm _ _ => true
  | .not1Mem16Imm _ _ => true
  | .not1Cy => true
  | .clr1Reg8Cl _ => true
  | .clr1Mem8Cl _ => true
  | .clr1Reg16Cl _ => true
  | .clr1Mem16Cl _ => true
  | .clr1Reg8Imm _ _ => true
  | .clr1Mem8Imm _ _ => true
  | .clr1Reg16Imm _ _ => true
  | .clr1Mem16Imm _ _ => true
  | .clr1Cy => true
  | .clr1Dir => true
  | .set1Reg8Cl _ => true
  | .set1Mem8Cl _ => true
  | .set1Reg16Cl _ => true
  | .set1Mem16Cl _ => true
  | .set1Reg8Imm _ _ => true
  | .set1Mem8Imm _ _ => true
  | .set1Reg16Imm _ _ => true
  | .set1Mem16Imm _ _ => true
  | .set1Cy => true
  | .set1Dir => true
  | .shlReg1 _ _ => true
  | .shlMem1 _ _ => true
  | .shlRegCl _ _ => true
  | .shlMemCl _ _ => true
  | .shlRegImm8 _ _ _ => true
  | .shlMemImm8 _ _ _ => true
  | .shrReg1 _ _ => true
  | .shrMem1 _ _ => true
  | .shrRegCl _ _ => true
  | .shrMemCl _ _ => true
  | .shrRegImm8 _ _ _ => true
  | .shrMemImm8 _ _ _ => true
  | .shraReg1 _ _ => true
  | .shraMem1 _ _ => true
  | .shraRegCl _ _ => true
  | .shraMemCl _ _ => true
  | .shraRegImm8 _ _ _ => true
  | .shraMemImm8 _ _ _ => true
  | .rolReg1 _ _ => true
  | .rolMem1 _ _ => true
  | .rolRegCl _ _ => true
  | .rolMemCl _ _ => true
  | .rolRegImm8 _ _ _ => true
  | .rolMemImm8 _ _ _ => true
  | .rorReg1 _ _ => true
  | .rorMem1 _ _ => true
  | .rorRegCl _ _ => true
  | .rorMemCl _ _ => true
  | .rorRegImm8 _ _ _ => true
  | .rorMemImm8 _ _ _ => true
  | .rolcReg1 _ _ => true
  | .rolcMem1 _ _ => true
  | .rolcRegCl _ _ => true
  | .rolcMemCl _ _ => true
  | .rolcRegImm8 _ _ _ => true
  | .rolcMemImm8 _ _ _ => true
  | .rorcReg1 _ _ => true
  | .rorcMem1 _ _ => true
  | .rorcRegCl _ _ => true
  | .rorcMemCl _ _ => true
  | .rorcRegImm8 _ _ _ => true
  | .rorcMemImm8 _ _ _ => true
  | .callNear _ => true
  | .callReg16 _ => true
  | .callMem16 _ => true
  | .callFar _ _ => true
  | .callMem32 _ => true
  | .retNear => true
  | .retNearPop _ => true
  | .retFar => true
  | .retFarPop _ => true
  | .brNear _ => true
  | .brShort _ => true
  | .brReg16 _ => true
  | .brMem16 _ => true
  | .brFar _ _ => true
  | .brMem32 _ => true
  | .pushMem16 _ => true
  | .pushReg16 _ => true
  | .pushSreg _ => true
  | .pushPsw => true
  | .pushR => true
  | .pushImm8 _ => true
  | .pushImm16 _ => true
  | .popMem16 _ => true
  | .popReg16 _ => true
  | .popSreg _ => true
  | .popPsw => true
  | .popR => true
  | .prepare _ _ => true
  | .dispose => true
  | .bv _ => true
  | .bnv _ => true
  | .bc _ => true
  | .bnc _ => true
  | .be _ => true
  | .bne _ => true
  | .bnh _ => true
  | .bh _ => true
  | .bn _ => true
  | .bp _ => true
  | .bpe _ => true
  | .bpo _ => true
  | .blt _ => true
  | .bge _ => true
  | .ble _ => true
  | .bgt _ => true
  | .dbnzne _ => true
  | .dbnze _ => true
  | .dbnz _ => true
  | .bcwz _ => true
  | .brk3 => true
  | .brkImm8 _ => true
  | .brkv => true
  | .reti => true
  | .brkem _ => true
  | .chkind _ _ => true
  | .halt => true
  | .di => true
  | .poll => true
  | .ei => true
  | .buslock => true
  | .nop => true
  | .fpo1 _ _ _ => true
  | .fpo1Mem _ _ _ => true
  | .fpo2 _ _ _ => true
  | .fpo2Mem _ _ _ => true
  | .segOverride _ => true
  | .calln _ => false
  | .retem => false
  | .movRegRegAlt _ _ _ => true
  | .movRegImmAlt _ _ _ => true
  | .addRegRegAlt _ _ _ => true
  | .addcRegRegAlt _ _ _ => true
  | .subRegRegAlt _ _ _ => true
  | .subcRegRegAlt _ _ _ => true
  | .incReg16Alt _ => true
  | .decReg16Alt _ => true
  | .cmpRegRegAlt _ _ _ => true
  | .andRegRegAlt _ _ _ => true
  | .andRegImmAlt _ _ _ => true
  | .andMemImmAlt _ _ _ => true
  | .orRegRegAlt _ _ _ => true
  | .orRegImmAlt _ _ _ => true
  | .orMemImmAlt _ _ _ => true
  | .xorRegRegAlt _ _ _ => true
  | .xorRegImmAlt _ _ _ => true
  | .xorMemImmAlt _ _ _ => true
  | .pushReg16Alt _ => true
  | .popReg16Alt _ => true

end Sys2Proof
end

