-- ==== Sys2Proof/Decode.lean ====
section
/-! DEFINITION. The decoder, total on any bytes, and after it the encoder, both written from the maps of spec
30_encoding.md (R130 to R155). The first byte is the one at the lowest address.

The section is marked noncomputable because Lean's code generator gives an object no constructor number above 244 and
`Instr` has more constructors with fields than that; the kernel evaluates every definition here. -/

noncomputable section

namespace Sys2Proof

/-! ## Fields -/

/-- The register that a 3-bit field names (R33). -/
def Reg.ofBits (b : BitVec 3) : Reg :=
  match b.toNat with
  | 0 => .al_aw
  | 1 => .cl_cw
  | 2 => .dl_dw
  | 3 => .bl_bw
  | 4 => .ah_sp
  | 5 => .ch_bp
  | 6 => .dh_ix
  | _ => .bh_iy

/-- The 3-bit field of a register (R33). -/
def Reg.bits : Reg → BitVec 3
  | .al_aw => 0
  | .cl_cw => 1
  | .dl_dw => 2
  | .bl_bw => 3
  | .ah_sp => 4
  | .ch_bp => 5
  | .dh_ix => 6
  | .bh_iy => 7

/-- The segment register that a 2-bit field names (R36). -/
def Sreg.ofBits (b : BitVec 2) : Sreg :=
  match b.toNat with
  | 0 => .ds1
  | 1 => .ps
  | 2 => .ss
  | _ => .ds0

/-- The 2-bit field of a segment register (R36). -/
def Sreg.bits : Sreg → BitVec 2
  | .ds1 => 0
  | .ps => 1
  | .ss => 2
  | .ds0 => 3

/-- The middle field `0 sreg` of 8CH and 8EH (R134). -/
def Sreg.field (sr : Sreg) : BitVec 3 := (0 : BitVec 1) ++ sr.bits

/-- The row of Table 12-5 that a `mem` field names (R140). -/
def AddrForm.ofBits (b : BitVec 3) : AddrForm :=
  match b.toNat with
  | 0 => .bw_ix
  | 1 => .bw_iy
  | 2 => .bp_ix
  | 3 => .bp_iy
  | 4 => .ix
  | 5 => .iy
  | 6 => .bp
  | _ => .bw

/-- The `mem` field of a row of Table 12-5 (R140). -/
def AddrForm.bits : AddrForm → BitVec 3
  | .bw_ix => 0
  | .bw_iy => 1
  | .bp_ix => 2
  | .bp_iy => 3
  | .ix => 4
  | .iy => 5
  | .bp => 6
  | .bw => 7

/-- The width that bit 0 of a byte names (R133). -/
def Width.ofBit (b : Byte) : Width := if b.getLsbD 0 then .word else .byte

/-- The `sW` value of a byte 80H to 83H (R152 (a)). -/
def SW.ofBits (b : Byte) : SW :=
  match (b.extractLsb' 0 2).toNat with
  | 0 => .b80
  | 1 => .w81
  | 2 => .b82
  | _ => .w83

/-- The operation that a 3-bit field names (R152 (a)). -/
def AluOp.ofBits (b : BitVec 3) : AluOp :=
  match b.toNat with
  | 0 => .add
  | 1 => .or
  | 2 => .addc
  | 3 => .subc
  | 4 => .and
  | 5 => .sub
  | 6 => .xor
  | _ => .cmp

/-! ## Readers of the instruction's bytes -/

/-- One byte. -/
def takeByte : List Byte → Except DecodeError (Byte × List Byte)
  | [] => .error .truncated
  | b :: rest => .ok (b, rest)

/-- A 16-bit quantity, low byte first (R132). -/
def takeWord : List Byte → Except DecodeError (Word × List Byte)
  | lo :: hi :: rest => .ok (mkWord hi lo, rest)
  | _ => .error .truncated

/-- An immediate of an operand's width; a byte is held zero-extended (R136). -/
def takeImm (w : Width) (bytes : List Byte) : Except DecodeError (Word × List Byte) :=
  match w with
  | .byte => do
    let (b, rest) ← takeByte bytes
    .ok (zext16 b, rest)
  | .word => takeWord bytes

/-- The immediate of the group 80H to 83H: two bytes for 81H, one for the others (R152 (a)). -/
def takeImmSW (sw : SW) (bytes : List Byte) : Except DecodeError (Word × List Byte) :=
  match sw with
  | .w81 => takeImm .word bytes
  | .b80 | .b82 | .w83 => takeImm .byte bytes

/-- The operand byte and its displacement: the middle field, the operand, and the bytes that follow (R134, R140). -/
def takeRM (bytes : List Byte) : Except DecodeError (BitVec 3 × RM × List Byte) := do
  let (b, rest) ← takeByte bytes
  let mid : BitVec 3 := b.extractLsb' 3 3
  let low : BitVec 3 := b.extractLsb' 0 3
  match (b.extractLsb' 6 2).toNat with
  | 0 =>
    if low = 6 then do
      let (addr, rest) ← takeWord rest
      .ok (mid, .mem (.direct addr), rest)
    else .ok (mid, .mem (.ind (.ofBits low)), rest)
  | 1 => do
    let (disp, rest) ← takeByte rest
    .ok (mid, .mem (.disp8 (.ofBits low) disp), rest)
  | 2 => do
    let (disp, rest) ← takeWord rest
    .ok (mid, .mem (.disp16 (.ofBits low) disp), rest)
  | _ => .ok (mid, .reg (.ofBits low), rest)

/-- What decoding answers: an instruction and the bytes after it, or why there is none. -/
abbrev Decoded := Except DecodeError (Instr × List Byte)

/-! ## The groups that share a layout -/

/-- d = 1, mod = 11: the middle field is the destination. -/
def aluRegReg : AluOp → Width → Reg → Reg → Instr
  | .add, w, d, r => .addRegReg w d r
  | .or, w, d, r => .orRegReg w d r
  | .addc, w, d, r => .addcRegReg w d r
  | .subc, w, d, r => .subcRegReg w d r
  | .and, w, d, r => .andRegReg w d r
  | .sub, w, d, r => .subRegReg w d r
  | .xor, w, d, r => .xorRegReg w d r
  | .cmp, w, d, r => .cmpRegReg w d r

/-- d = 0, mod = 11: the low field is the destination (R145). -/
def aluRegRegAlt : AluOp → Width → Reg → Reg → Instr
  | .add, w, d, r => .addRegRegAlt w d r
  | .or, w, d, r => .orRegRegAlt w d r
  | .addc, w, d, r => .addcRegRegAlt w d r
  | .subc, w, d, r => .subcRegRegAlt w d r
  | .and, w, d, r => .andRegRegAlt w d r
  | .sub, w, d, r => .subRegRegAlt w d r
  | .xor, w, d, r => .xorRegRegAlt w d r
  | .cmp, w, d, r => .cmpRegRegAlt w d r

/-- d = 0, mod = 00, 01, 10. -/
def aluMemReg : AluOp → Width → Mem → Reg → Instr
  | .add, w, m, r => .addMemReg w m r
  | .or, w, m, r => .orMemReg w m r
  | .addc, w, m, r => .addcMemReg w m r
  | .subc, w, m, r => .subcMemReg w m r
  | .and, w, m, r => .andMemReg w m r
  | .sub, w, m, r => .subMemReg w m r
  | .xor, w, m, r => .xorMemReg w m r
  | .cmp, w, m, r => .cmpMemReg w m r

/-- d = 1, mod = 00, 01, 10. -/
def aluRegMem : AluOp → Width → Reg → Mem → Instr
  | .add, w, r, m => .addRegMem w r m
  | .or, w, r, m => .orRegMem w r m
  | .addc, w, r, m => .addcRegMem w r m
  | .subc, w, r, m => .subcRegMem w r m
  | .and, w, r, m => .andRegMem w r m
  | .sub, w, r, m => .subRegMem w r m
  | .xor, w, r, m => .xorRegMem w r m
  | .cmp, w, r, m => .cmpRegMem w r m

/-- `00ooo10W`: accumulator and immediate. -/
def aluAccImm : AluOp → Width → Word → Instr
  | .add, w, imm => .addAccImm w imm
  | .or, w, imm => .orAccImm w imm
  | .addc, w, imm => .addcAccImm w imm
  | .subc, w, imm => .subcAccImm w imm
  | .and, w, imm => .andAccImm w imm
  | .sub, w, imm => .subAccImm w imm
  | .xor, w, imm => .xorAccImm w imm
  | .cmp, w, imm => .cmpAccImm w imm

/-- The immediate group with a register operand (R152 (a)). The table lists the logical operations under 80H and 81H and,
as rows of their own, under 82H and 83H. -/
def aluRegImm : AluOp → SW → Reg → Word → Instr
  | .add, sw, r, imm => .addRegImm sw r imm
  | .or, .b80, r, imm => .orRegImm .byte r imm
  | .or, .w81, r, imm => .orRegImm .word r imm
  | .or, .b82, r, imm => .orRegImmAlt .byte r (loByte imm)
  | .or, .w83, r, imm => .orRegImmAlt .word r (loByte imm)
  | .addc, sw, r, imm => .addcRegImm sw r imm
  | .subc, sw, r, imm => .subcRegImm sw r imm
  | .and, .b80, r, imm => .andRegImm .byte r imm
  | .and, .w81, r, imm => .andRegImm .word r imm
  | .and, .b82, r, imm => .andRegImmAlt .byte r (loByte imm)
  | .and, .w83, r, imm => .andRegImmAlt .word r (loByte imm)
  | .sub, sw, r, imm => .subRegImm sw r imm
  | .xor, .b80, r, imm => .xorRegImm .byte r imm
  | .xor, .w81, r, imm => .xorRegImm .word r imm
  | .xor, .b82, r, imm => .xorRegImmAlt .byte r (loByte imm)
  | .xor, .w83, r, imm => .xorRegImmAlt .word r (loByte imm)
  | .cmp, sw, r, imm => .cmpRegImm sw r imm

/-- The immediate group with a memory operand (R152 (a)). The table lists the logical operations under 80H and 81H and,
as rows of their own, under 82H and 83H. -/
def aluMemImm : AluOp → SW → Mem → Word → Instr
  | .add, sw, m, imm => .addMemImm sw m imm
  | .or, .b80, m, imm => .orMemImm .byte m imm
  | .or, .w81, m, imm => .orMemImm .word m imm
  | .or, .b82, m, imm => .orMemImmAlt .byte m (loByte imm)
  | .or, .w83, m, imm => .orMemImmAlt .word m (loByte imm)
  | .addc, sw, m, imm => .addcMemImm sw m imm
  | .subc, sw, m, imm => .subcMemImm sw m imm
  | .and, .b80, m, imm => .andMemImm .byte m imm
  | .and, .w81, m, imm => .andMemImm .word m imm
  | .and, .b82, m, imm => .andMemImmAlt .byte m (loByte imm)
  | .and, .w83, m, imm => .andMemImmAlt .word m (loByte imm)
  | .sub, sw, m, imm => .subMemImm sw m imm
  | .xor, .b80, m, imm => .xorMemImm .byte m imm
  | .xor, .w81, m, imm => .xorMemImm .word m imm
  | .xor, .b82, m, imm => .xorMemImmAlt .byte m (loByte imm)
  | .xor, .w83, m, imm => .xorMemImmAlt .word m (loByte imm)
  | .cmp, sw, m, imm => .cmpMemImm sw m imm

/-- A shift or rotate of a register, count 1 (R152 (b)). -/
def shiftReg1 : ShiftOp → Width → Reg → Instr
  | .rol, w, r => .rolReg1 w r
  | .ror, w, r => .rorReg1 w r
  | .rolc, w, r => .rolcReg1 w r
  | .rorc, w, r => .rorcReg1 w r
  | .shl, w, r => .shlReg1 w r
  | .shr, w, r => .shrReg1 w r
  | .shra, w, r => .shraReg1 w r

/-- A shift or rotate of a register, count CL (R152 (b)). -/
def shiftRegCl : ShiftOp → Width → Reg → Instr
  | .rol, w, r => .rolRegCl w r
  | .ror, w, r => .rorRegCl w r
  | .rolc, w, r => .rolcRegCl w r
  | .rorc, w, r => .rorcRegCl w r
  | .shl, w, r => .shlRegCl w r
  | .shr, w, r => .shrRegCl w r
  | .shra, w, r => .shraRegCl w r

/-- A shift or rotate of a register, count imm8 (R152 (b)). -/
def shiftRegImm8 : ShiftOp → Width → Reg → Byte → Instr
  | .rol, w, r, i => .rolRegImm8 w r i
  | .ror, w, r, i => .rorRegImm8 w r i
  | .rolc, w, r, i => .rolcRegImm8 w r i
  | .rorc, w, r, i => .rorcRegImm8 w r i
  | .shl, w, r, i => .shlRegImm8 w r i
  | .shr, w, r, i => .shrRegImm8 w r i
  | .shra, w, r, i => .shraRegImm8 w r i

/-- A shift or rotate of a memory operand, count 1 (R152 (b)). -/
def shiftMem1 : ShiftOp → Width → Mem → Instr
  | .rol, w, m => .rolMem1 w m
  | .ror, w, m => .rorMem1 w m
  | .rolc, w, m => .rolcMem1 w m
  | .rorc, w, m => .rorcMem1 w m
  | .shl, w, m => .shlMem1 w m
  | .shr, w, m => .shrMem1 w m
  | .shra, w, m => .shraMem1 w m

/-- A shift or rotate of a memory operand, count CL (R152 (b)). -/
def shiftMemCl : ShiftOp → Width → Mem → Instr
  | .rol, w, m => .rolMemCl w m
  | .ror, w, m => .rorMemCl w m
  | .rolc, w, m => .rolcMemCl w m
  | .rorc, w, m => .rorcMemCl w m
  | .shl, w, m => .shlMemCl w m
  | .shr, w, m => .shrMemCl w m
  | .shra, w, m => .shraMemCl w m

/-- A shift or rotate of a memory operand, count imm8 (R152 (b)). -/
def shiftMemImm8 : ShiftOp → Width → Mem → Byte → Instr
  | .rol, w, m, i => .rolMemImm8 w m i
  | .ror, w, m, i => .rorMemImm8 w m i
  | .rolc, w, m, i => .rolcMemImm8 w m i
  | .rorc, w, m, i => .rorcMemImm8 w m i
  | .shl, w, m, i => .shlMemImm8 w m i
  | .shr, w, m, i => .shrMemImm8 w m i
  | .shra, w, m, i => .shraMemImm8 w m i

/-- The operation of a shift group's sub-opcode; 110 is unassigned (R152 (b)). -/
def ShiftOp.ofBits (b : BitVec 3) : Except DecodeError ShiftOp :=
  match b.toNat with
  | 0 => .ok .rol
  | 1 => .ok .ror
  | 2 => .ok .rolc
  | 3 => .ok .rorc
  | 4 => .ok .shl
  | 5 => .ok .shr
  | 6 => .error .unassignedSub
  | _ => .ok .shra

/-- A single-bit operation on a register, bit number in CL (R151). -/
def bitRegCl : BitOp → Width → Reg → Instr
  | .test1, .byte, r => .test1Reg8Cl r
  | .test1, .word, r => .test1Reg16Cl r
  | .clr1, .byte, r => .clr1Reg8Cl r
  | .clr1, .word, r => .clr1Reg16Cl r
  | .set1, .byte, r => .set1Reg8Cl r
  | .set1, .word, r => .set1Reg16Cl r
  | .not1, .byte, r => .not1Reg8Cl r
  | .not1, .word, r => .not1Reg16Cl r

/-- A single-bit operation on a register, bit number in an immediate (R151). -/
def bitRegImm : BitOp → Width → Reg → Byte → Instr
  | .test1, .byte, r, i => .test1Reg8Imm r i
  | .test1, .word, r, i => .test1Reg16Imm r i
  | .clr1, .byte, r, i => .clr1Reg8Imm r i
  | .clr1, .word, r, i => .clr1Reg16Imm r i
  | .set1, .byte, r, i => .set1Reg8Imm r i
  | .set1, .word, r, i => .set1Reg16Imm r i
  | .not1, .byte, r, i => .not1Reg8Imm r i
  | .not1, .word, r, i => .not1Reg16Imm r i

/-- A single-bit operation on a memory operand, bit number in CL (R151). -/
def bitMemCl : BitOp → Width → Mem → Instr
  | .test1, .byte, m => .test1Mem8Cl m
  | .test1, .word, m => .test1Mem16Cl m
  | .clr1, .byte, m => .clr1Mem8Cl m
  | .clr1, .word, m => .clr1Mem16Cl m
  | .set1, .byte, m => .set1Mem8Cl m
  | .set1, .word, m => .set1Mem16Cl m
  | .not1, .byte, m => .not1Mem8Cl m
  | .not1, .word, m => .not1Mem16Cl m

/-- A single-bit operation on a memory operand, bit number in an immediate (R151). -/
def bitMemImm : BitOp → Width → Mem → Byte → Instr
  | .test1, .byte, m, i => .test1Mem8Imm m i
  | .test1, .word, m, i => .test1Mem16Imm m i
  | .clr1, .byte, m, i => .clr1Mem8Imm m i
  | .clr1, .word, m, i => .clr1Mem16Imm m i
  | .set1, .byte, m, i => .set1Mem8Imm m i
  | .set1, .word, m, i => .set1Mem16Imm m i
  | .not1, .byte, m, i => .not1Mem8Imm m i
  | .not1, .word, m, i => .not1Mem16Imm m i

/-- The operation of the `oo` field (R151). -/
def BitOp.ofBits (b : BitVec 2) : BitOp :=
  match b.toNat with
  | 0 => .test1
  | 1 => .clr1
  | 2 => .set1
  | _ => .not1

/-! ## The map of opcode byte 1 (R150), one function for each value of its upper four bits -/

/-- `00ooo0dW` and `00ooo10W`: what the low three bits of the first byte select, for 0 to 5. -/
def decodeAlu (op : AluOp) (b : Byte) (bytes : List Byte) : Decoded :=
  let w := Width.ofBit b
  match (b.extractLsb' 1 2).toNat with
  | 0 => do
    let (mid, rm, rest) ← takeRM bytes
    match rm with
    | .reg d => .ok (aluRegRegAlt op w d (.ofBits mid), rest)
    | .mem m => .ok (aluMemReg op w m (.ofBits mid), rest)
  | 1 => do
    let (mid, rm, rest) ← takeRM bytes
    match rm with
    | .reg r => .ok (aluRegReg op w (.ofBits mid) r, rest)
    | .mem m => .ok (aluRegMem op w (.ofBits mid) m, rest)
  | _ => do
    let (imm, rest) ← takeImm w bytes
    .ok (aluAccImm op w imm, rest)

/-- The two-byte opcodes 0FH 10H to 0FH 1FH: `0001 i oo W` and `mod 000 mem` (R151). -/
def decodeBit (b : Byte) (bytes : List Byte) : Decoded := do
  let w := Width.ofBit b
  let op := BitOp.ofBits (b.extractLsb' 1 2)
  let (mid, rm, rest) ← takeRM bytes
  if mid ≠ 0 then .error .unassignedSub
  else if b.getLsbD 3 then do
    let (i, rest) ← takeByte rest
    match rm with
    | .reg r => .ok (bitRegImm op w r i, rest)
    | .mem m => .ok (bitMemImm op w m i, rest)
  else
    match rm with
    | .reg r => .ok (bitRegCl op w r, rest)
    | .mem m => .ok (bitMemCl op w m, rest)

/-- The two-byte opcodes (R151). -/
def decodeSecond (bytes : List Byte) : Decoded := do
  let (b, rest) ← takeByte bytes
  if b.extractLsb' 4 4 = 1 then decodeBit b rest
  else
    match b.toNat with
    | 0x20 => .ok (.add4s, rest)
    | 0x22 => .ok (.sub4s, rest)
    | 0x26 => .ok (.cmp4s, rest)
    | 0x28 => do
      let (mid, rm, rest) ← takeRM rest
      if mid ≠ 0 then .error .unassignedSub
      else
        match rm with
        | .reg r => .ok (.rol4Reg8 r, rest)
        | .mem m => .ok (.rol4Mem8 m, rest)
    | 0x2A => do
      let (mid, rm, rest) ← takeRM rest
      if mid ≠ 0 then .error .unassignedSub
      else
        match rm with
        | .reg r => .ok (.ror4Reg8 r, rest)
        | .mem m => .ok (.ror4Mem8 m, rest)
    | 0x31 => do
      let (mid, rm, rest) ← takeRM rest
      match rm with
      | .reg r1 => .ok (.insReg8Reg8 r1 (.ofBits mid), rest)
      | .mem _ => .error .memoryOperand
    | 0x33 => do
      let (mid, rm, rest) ← takeRM rest
      match rm with
      | .reg r1 => .ok (.extReg8Reg8 r1 (.ofBits mid), rest)
      | .mem _ => .error .memoryOperand
    | 0x39 => do
      let (mid, rm, rest) ← takeRM rest
      match rm with
      | .reg r =>
        if mid ≠ 0 then .error .unassignedSub
        else do
          let (i, rest) ← takeByte rest
          .ok (.insReg8Imm4 r i, rest)
      | .mem _ => .error .memoryOperand
    | 0x3B => do
      let (mid, rm, rest) ← takeRM rest
      match rm with
      | .reg r =>
        if mid ≠ 0 then .error .unassignedSub
        else do
          let (i, rest) ← takeByte rest
          .ok (.extReg8Imm4 r i, rest)
      | .mem _ => .error .memoryOperand
    | 0xFF => do
      let (n, rest) ← takeByte rest
      .ok (.brkem n, rest)
    | _ => .error .unassignedSecond

/-- The slots 6, 7, E and F of the first four rows: PUSH sreg, POP sreg, the escape byte, the override prefixes and the
decimal adjustments. -/
def decodeLowSlots (b : Byte) (rest : List Byte) : Decoded :=
  match b.toNat with
  | 0x06 => .ok (.pushSreg .ds1, rest)
  | 0x07 => .ok (.popSreg .ds1, rest)
  | 0x0E => .ok (.pushSreg .ps, rest)
  | 0x0F => decodeSecond rest
  | 0x16 => .ok (.pushSreg .ss, rest)
  | 0x17 => .ok (.popSreg .ss, rest)
  | 0x1E => .ok (.pushSreg .ds0, rest)
  | 0x1F => .ok (.popSreg .ds0, rest)
  | 0x26 => .ok (.segOverride .ds1, rest)
  | 0x27 => .ok (.adj4a, rest)
  | 0x2E => .ok (.segOverride .ps, rest)
  | 0x2F => .ok (.adj4s, rest)
  | 0x36 => .ok (.segOverride .ss, rest)
  | 0x37 => .ok (.adjba, rest)
  | 0x3E => .ok (.segOverride .ds0, rest)
  | _ => .ok (.adjbs, rest)

/-- 00H to 3FH. -/
def decodeLow (b : Byte) (rest : List Byte) : Decoded :=
  if (b.extractLsb' 1 2).toNat = 3 then decodeLowSlots b rest
  else decodeAlu (.ofBits (b.extractLsb' 3 3)) b rest

/-- 40H to 4FH. -/
def decode4 (b : Byte) (rest : List Byte) : Decoded :=
  let r := Reg.ofBits (b.extractLsb' 0 3)
  .ok (if b.getLsbD 3 then .decReg16 r else .incReg16 r, rest)

/-- 50H to 5FH. -/
def decode5 (b : Byte) (rest : List Byte) : Decoded :=
  let r := Reg.ofBits (b.extractLsb' 0 3)
  .ok (if b.getLsbD 3 then .popReg16 r else .pushReg16 r, rest)

/-- 60H to 6FH. -/
def decode6 (b : Byte) (rest : List Byte) : Decoded :=
  let w := Width.ofBit b
  match (b.extractLsb' 0 4).toNat with
  | 0 => .ok (.pushR, rest)
  | 1 => .ok (.popR, rest)
  | 2 => do
    let (mid, rm, rest) ← takeRM rest
    match rm with
    | .reg _ => .error .registerOperand
    | .mem m => .ok (.chkind (.ofBits mid) m, rest)
  | 3 => .error .unassignedOpcode
  | 4 => .ok (.repnc, rest)
  | 5 => .ok (.repc, rest)
  | 6 | 7 => do
    let (mid, rm, rest) ← takeRM rest
    match rm with
    | .reg r => .ok (.fpo2 (b.getLsbD 0) mid r.bits, rest)
    | .mem m => .ok (.fpo2Mem (b.getLsbD 0) mid m, rest)
  | 8 => do
    let (imm, rest) ← takeWord rest
    .ok (.pushImm16 imm, rest)
  | 9 => do
    let (mid, rm, rest) ← takeRM rest
    let (imm, rest) ← takeWord rest
    match rm with
    | .reg r => .ok (.mulReg16Reg16Imm16 (.ofBits mid) r imm, rest)
    | .mem m => .ok (.mulReg16Mem16Imm16 (.ofBits mid) m imm, rest)
  | 10 => do
    let (i, rest) ← takeByte rest
    .ok (.pushImm8 i, rest)
  | 11 => do
    let (mid, rm, rest) ← takeRM rest
    let (i, rest) ← takeByte rest
    match rm with
    | .reg r => .ok (.mulReg16Reg16Imm8 (.ofBits mid) r i, rest)
    | .mem m => .ok (.mulReg16Mem16Imm8 (.ofBits mid) m i, rest)
  | 12 | 13 => .ok (.inm w, rest)
  | _ => .ok (.outm w, rest)

/-- 70H to 7FH: the sixteen conditional branches. -/
def decode7 (b : Byte) (rest : List Byte) : Decoded := do
  let (disp, rest) ← takeByte rest
  match (b.extractLsb' 0 4).toNat with
  | 0 => .ok (.bv disp, rest)
  | 1 => .ok (.bnv disp, rest)
  | 2 => .ok (.bc disp, rest)
  | 3 => .ok (.bnc disp, rest)
  | 4 => .ok (.be disp, rest)
  | 5 => .ok (.bne disp, rest)
  | 6 => .ok (.bnh disp, rest)
  | 7 => .ok (.bh disp, rest)
  | 8 => .ok (.bn disp, rest)
  | 9 => .ok (.bp disp, rest)
  | 10 => .ok (.bpe disp, rest)
  | 11 => .ok (.bpo disp, rest)
  | 12 => .ok (.blt disp, rest)
  | 13 => .ok (.bge disp, rest)
  | 14 => .ok (.ble disp, rest)
  | _ => .ok (.bgt disp, rest)

/-- 80H to 8FH. -/
def decode8 (b : Byte) (rest : List Byte) : Decoded :=
  let w := Width.ofBit b
  match (b.extractLsb' 0 4).toNat with
  | 0 | 1 | 2 | 3 => do
    let sw := SW.ofBits b
    let (mid, rm, rest) ← takeRM rest
    let (imm, rest) ← takeImmSW sw rest
    match rm with
    | .reg r => .ok (aluRegImm (.ofBits mid) sw r imm, rest)
    | .mem m => .ok (aluMemImm (.ofBits mid) sw m imm, rest)
  | 4 | 5 => do
    let (mid, rm, rest) ← takeRM rest
    match rm with
    | .reg r => .ok (.testRegReg w (.ofBits mid) r, rest)
    | .mem m => .ok (.testMemReg w m (.ofBits mid), rest)
  | 6 | 7 => do
    let (mid, rm, rest) ← takeRM rest
    match rm with
    | .reg r => .ok (.xchRegReg w (.ofBits mid) r, rest)
    | .mem m => .ok (.xchMemReg w m (.ofBits mid), rest)
  | 8 | 9 => do
    let (mid, rm, rest) ← takeRM rest
    match rm with
    | .reg d => .ok (.movRegRegAlt w d (.ofBits mid), rest)
    | .mem m => .ok (.movMemReg w m (.ofBits mid), rest)
  | 10 | 11 => do
    let (mid, rm, rest) ← takeRM rest
    match rm with
    | .reg r => .ok (.movRegReg w (.ofBits mid) r, rest)
    | .mem m => .ok (.movRegMem w (.ofBits mid) m, rest)
  | 12 => do
    let (mid, rm, rest) ← takeRM rest
    if mid.getLsbD 2 then .error .unassignedSub
    else
      match rm with
      | .reg r => .ok (.movReg16Sreg r (.ofBits (mid.extractLsb' 0 2)), rest)
      | .mem m => .ok (.movMem16Sreg m (.ofBits (mid.extractLsb' 0 2)), rest)
  | 13 => do
    let (mid, rm, rest) ← takeRM rest
    match rm with
    | .reg _ => .error .registerOperand
    | .mem m => .ok (.ldea (.ofBits mid) m, rest)
  | 14 => do
    let (mid, rm, rest) ← takeRM rest
    if mid.getLsbD 2 then .error .unassignedSub
    else if mid.extractLsb' 0 2 = Sreg.ps.bits then .error .psDestination
    else
      match rm with
      | .reg r => .ok (.movSregReg16 (.ofBits (mid.extractLsb' 0 2)) r, rest)
      | .mem m => .ok (.movSregMem16 (.ofBits (mid.extractLsb' 0 2)) m, rest)
  | _ => do
    let (mid, rm, rest) ← takeRM rest
    if mid ≠ 0 then .error .unassignedSub
    else
      match rm with
      | .reg r => .ok (.popReg16Alt r, rest)
      | .mem m => .ok (.popMem16 m, rest)

/-- 90H to 9FH. 90H is NOP (R154). -/
def decode9 (b : Byte) (rest : List Byte) : Decoded :=
  match (b.extractLsb' 0 4).toNat with
  | 0 => .ok (.nop, rest)
  | 8 => .ok (.cvtbw, rest)
  | 9 => .ok (.cvtwl, rest)
  | 10 => do
    let (off, rest) ← takeWord rest
    let (seg, rest) ← takeWord rest
    .ok (.callFar off seg, rest)
  | 11 => .ok (.poll, rest)
  | 12 => .ok (.pushPsw, rest)
  | 13 => .ok (.popPsw, rest)
  | 14 => .ok (.movPswAh, rest)
  | 15 => .ok (.movAhPsw, rest)
  | _ => .ok (.xchAwReg16 (.ofBits (b.extractLsb' 0 3)), rest)

/-- A0H to AFH. -/
def decodeA (b : Byte) (rest : List Byte) : Decoded :=
  let w := Width.ofBit b
  match (b.extractLsb' 1 3).toNat with
  | 0 => do
    let (addr, rest) ← takeWord rest
    .ok (.movAccDmem w addr, rest)
  | 1 => do
    let (addr, rest) ← takeWord rest
    .ok (.movDmemAcc w addr, rest)
  | 2 => .ok (.movbk w, rest)
  | 3 => .ok (.cmpbk w, rest)
  | 4 => do
    let (imm, rest) ← takeImm w rest
    .ok (.testAccImm w imm, rest)
  | 5 => .ok (.stm w, rest)
  | 6 => .ok (.ldm w, rest)
  | _ => .ok (.cmpm w, rest)

/-- B0H to BFH: `1011 W reg` (R133). -/
def decodeB (b : Byte) (rest : List Byte) : Decoded := do
  let w : Width := if b.getLsbD 3 then .word else .byte
  let (imm, rest) ← takeImm w rest
  .ok (.movRegImm w (.ofBits (b.extractLsb' 0 3)) imm, rest)

/-- C0H to CFH. -/
def decodeC (b : Byte) (rest : List Byte) : Decoded :=
  let w := Width.ofBit b
  match (b.extractLsb' 0 4).toNat with
  | 0 | 1 => do
    let (mid, rm, rest) ← takeRM rest
    let op ← ShiftOp.ofBits mid
    let (i, rest) ← takeByte rest
    match rm with
    | .reg r => .ok (shiftRegImm8 op w r i, rest)
    | .mem m => .ok (shiftMemImm8 op w m i, rest)
  | 2 => do
    let (n, rest) ← takeWord rest
    .ok (.retNearPop n, rest)
  | 3 => .ok (.retNear, rest)
  | 4 => do
    let (mid, rm, rest) ← takeRM rest
    match rm with
    | .reg _ => .error .registerOperand
    | .mem m => .ok (.movDs1Reg16Mem32 (.ofBits mid) m, rest)
  | 5 => do
    let (mid, rm, rest) ← takeRM rest
    match rm with
    | .reg _ => .error .registerOperand
    | .mem m => .ok (.movDs0Reg16Mem32 (.ofBits mid) m, rest)
  | 6 | 7 => do
    let (mid, rm, rest) ← takeRM rest
    if mid ≠ 0 then .error .unassignedSub
    else do
      let (imm, rest) ← takeImm w rest
      match rm with
      | .reg r => .ok (.movRegImmAlt w r imm, rest)
      | .mem m => .ok (.movMemImm w m imm, rest)
  | 8 => do
    let (size, rest) ← takeWord rest
    let (level, rest) ← takeByte rest
    .ok (.prepare size level, rest)
  | 9 => .ok (.dispose, rest)
  | 10 => do
    let (n, rest) ← takeWord rest
    .ok (.retFarPop n, rest)
  | 11 => .ok (.retFar, rest)
  | 12 => .ok (.brk3, rest)
  | 13 => do
    let (n, rest) ← takeByte rest
    .ok (.brkImm8 n, rest)
  | 14 => .ok (.brkv, rest)
  | _ => .ok (.reti, rest)

/-- D0H to DFH. -/
def decodeD (b : Byte) (rest : List Byte) : Decoded :=
  let w := Width.ofBit b
  match (b.extractLsb' 0 4).toNat with
  | 0 | 1 => do
    let (mid, rm, rest) ← takeRM rest
    let op ← ShiftOp.ofBits mid
    match rm with
    | .reg r => .ok (shiftReg1 op w r, rest)
    | .mem m => .ok (shiftMem1 op w m, rest)
  | 2 | 3 => do
    let (mid, rm, rest) ← takeRM rest
    let op ← ShiftOp.ofBits mid
    match rm with
    | .reg r => .ok (shiftRegCl op w r, rest)
    | .mem m => .ok (shiftMemCl op w m, rest)
  | 4 => do
    let (b2, rest) ← takeByte rest
    if b2 = 0x0A then .ok (.cvtbd, rest) else .error .secondByteNot0A
  | 5 => do
    let (b2, rest) ← takeByte rest
    if b2 = 0x0A then .ok (.cvtdb, rest) else .error .secondByteNot0A
  | 6 => .error .unassignedOpcode
  | 7 => .ok (.trans, rest)
  | _ => do
    let (mid, rm, rest) ← takeRM rest
    match rm with
    | .reg r => .ok (.fpo1 (b.extractLsb' 0 3) mid r.bits, rest)
    | .mem m => .ok (.fpo1Mem (b.extractLsb' 0 3) mid m, rest)

/-- E0H to EFH. -/
def decodeE (b : Byte) (rest : List Byte) : Decoded :=
  let w := Width.ofBit b
  match (b.extractLsb' 0 4).toNat with
  | 0 => do
    let (disp, rest) ← takeByte rest
    .ok (.dbnzne disp, rest)
  | 1 => do
    let (disp, rest) ← takeByte rest
    .ok (.dbnze disp, rest)
  | 2 => do
    let (disp, rest) ← takeByte rest
    .ok (.dbnz disp, rest)
  | 3 => do
    let (disp, rest) ← takeByte rest
    .ok (.bcwz disp, rest)
  | 4 | 5 => do
    let (port, rest) ← takeByte rest
    .ok (.inAccImm8 w port, rest)
  | 6 | 7 => do
    let (port, rest) ← takeByte rest
    .ok (.outImm8Acc w port, rest)
  | 8 => do
    let (disp, rest) ← takeWord rest
    .ok (.callNear disp, rest)
  | 9 => do
    let (disp, rest) ← takeWord rest
    .ok (.brNear disp, rest)
  | 10 => do
    let (off, rest) ← takeWord rest
    let (seg, rest) ← takeWord rest
    .ok (.brFar off seg, rest)
  | 11 => do
    let (disp, rest) ← takeByte rest
    .ok (.brShort disp, rest)
  | 12 | 13 => .ok (.inAccDw w, rest)
  | _ => .ok (.outDwAcc w, rest)

/-- The group F6H, F7H (R152 (c)). -/
def decodeF6 (w : Width) (bytes : List Byte) : Decoded := do
  let (mid, rm, rest) ← takeRM bytes
  match mid.toNat, rm with
  | 0, .reg r => do
    let (imm, rest) ← takeImm w rest
    .ok (.testRegImm w r imm, rest)
  | 0, .mem m => do
    let (imm, rest) ← takeImm w rest
    .ok (.testMemImm w m imm, rest)
  | 1, _ => .error .unassignedSub
  | 2, .reg r => .ok (.notReg w r, rest)
  | 2, .mem m => .ok (.notMem w m, rest)
  | 3, .reg r => .ok (.negReg w r, rest)
  | 3, .mem m => .ok (.negMem w m, rest)
  | 4, .reg r => .ok (match w with | .byte => .muluReg8 r | .word => .muluReg16 r, rest)
  | 4, .mem m => .ok (match w with | .byte => .muluMem8 m | .word => .muluMem16 m, rest)
  | 5, .reg r => .ok (match w with | .byte => .mulReg8 r | .word => .mulReg16 r, rest)
  | 5, .mem m => .ok (match w with | .byte => .mulMem8 m | .word => .mulMem16 m, rest)
  | 6, .reg r => .ok (match w with | .byte => .divuReg8 r | .word => .divuReg16 r, rest)
  | 6, .mem m => .ok (match w with | .byte => .divuMem8 m | .word => .divuMem16 m, rest)
  | _, .reg r => .ok (match w with | .byte => .divReg8 r | .word => .divReg16 r, rest)
  | _, .mem m => .ok (match w with | .byte => .divMem8 m | .word => .divMem16 m, rest)

/-- The group FEH (R152 (d)). -/
def decodeFE (bytes : List Byte) : Decoded := do
  let (mid, rm, rest) ← takeRM bytes
  match mid.toNat, rm with
  | 0, .reg r => .ok (.incReg8 r, rest)
  | 0, .mem m => .ok (.incMem .byte m, rest)
  | 1, .reg r => .ok (.decReg8 r, rest)
  | 1, .mem m => .ok (.decMem .byte m, rest)
  | _, _ => .error .unassignedSub

/-- The group FFH (R152 (e)). -/
def decodeFF (bytes : List Byte) : Decoded := do
  let (mid, rm, rest) ← takeRM bytes
  match mid.toNat, rm with
  | 0, .reg r => .ok (.incReg16Alt r, rest)
  | 0, .mem m => .ok (.incMem .word m, rest)
  | 1, .reg r => .ok (.decReg16Alt r, rest)
  | 1, .mem m => .ok (.decMem .word m, rest)
  | 2, .reg r => .ok (.callReg16 r, rest)
  | 2, .mem m => .ok (.callMem16 m, rest)
  | 3, .reg _ => .error .registerOperand
  | 3, .mem m => .ok (.callMem32 m, rest)
  | 4, .reg r => .ok (.brReg16 r, rest)
  | 4, .mem m => .ok (.brMem16 m, rest)
  | 5, .reg _ => .error .registerOperand
  | 5, .mem m => .ok (.brMem32 m, rest)
  | 6, .reg r => .ok (.pushReg16Alt r, rest)
  | 6, .mem m => .ok (.pushMem16 m, rest)
  | _, _ => .error .unassignedSub

/-- F0H to FFH. -/
def decodeF (b : Byte) (rest : List Byte) : Decoded :=
  match (b.extractLsb' 0 4).toNat with
  | 0 => .ok (.buslock, rest)
  | 1 => .error .unassignedOpcode
  | 2 => .ok (.repne, rest)
  | 3 => .ok (.rep, rest)
  | 4 => .ok (.halt, rest)
  | 5 => .ok (.not1Cy, rest)
  | 6 => decodeF6 .byte rest
  | 7 => decodeF6 .word rest
  | 8 => .ok (.clr1Cy, rest)
  | 9 => .ok (.set1Cy, rest)
  | 10 => .ok (.di, rest)
  | 11 => .ok (.ei, rest)
  | 12 => .ok (.clr1Dir, rest)
  | 13 => .ok (.set1Dir, rest)
  | 14 => decodeFE rest
  | _ => decodeFF rest

/-- Native mode: the instruction that the first byte selects (R139, R150). -/
def decodeNative : List Byte → Decoded
  | [] => .error .truncated
  | b :: rest =>
    match (b.extractLsb' 4 4).toNat with
    | 0 | 1 | 2 | 3 => decodeLow b rest
    | 4 => decode4 b rest
    | 5 => decode5 b rest
    | 6 => decode6 b rest
    | 7 => decode7 b rest
    | 8 => decode8 b rest
    | 9 => decode9 b rest
    | 10 => decodeA b rest
    | 11 => decodeB b rest
    | 12 => decodeC b rest
    | 13 => decodeD b rest
    | 14 => decodeE b rest
    | _ => decodeF b rest

/-- Emulation mode: CALLN and RETEM; every other byte sequence is an instruction of the uPD8080AF, which the spec
leaves out (R155, R722). -/
def decodeEmulation : List Byte → Decoded
  | b1 :: b2 :: rest =>
    if b1 = 0xED ∧ b2 = 0xED then do
      let (n, rest) ← takeByte rest
      .ok (.calln n, rest)
    else if b1 = 0xED ∧ b2 = 0xFD then .ok (.retem, rest)
    else .error .emulationOpcode
  | _ => .error .truncated

/-- The instruction that bytes stand for while MD has this value (R155: decode reads MD first). -/
def decode (md : Bool) (bytes : List Byte) : Decoded :=
  if md then decodeNative bytes else decodeEmulation bytes

/-! ## The encoder -/

/-- An opcode byte with W in bit 0. -/
def opW (base : Byte) : Width → Byte
  | .byte => base
  | .word => base ||| 1

/-- An opcode byte with a register in bits 2 to 0. -/
def opReg (base : Byte) (r : Reg) : Byte := base ||| r.bits.setWidth 8

/-- `1011 W reg`. -/
def opRegW (base : Byte) (w : Width) (r : Reg) : Byte :=
  match w with
  | .byte => opReg base r
  | .word => opReg (base ||| 8) r

/-- An opcode byte with a segment register in bits 4 and 3. -/
def opSreg (base : Byte) (sr : Sreg) : Byte := base ||| (sr.bits.setWidth 8 <<< 3)

/-- An opcode byte with three free bits at its end (FPO1). -/
def op3 (base : Byte) (x : BitVec 3) : Byte := base ||| x.setWidth 8

/-- An opcode byte with one free bit at its end (FPO2). -/
def opBit (base : Byte) (x : Bool) : Byte := if x then base ||| 1 else base

/-- The byte of `100000sW`. -/
def SW.opcode : SW → Byte
  | .b80 => 0x80
  | .w81 => 0x81
  | .b82 => 0x82
  | .w83 => 0x83

/-- The operand byte (R134). -/
def rmByte (mod : BitVec 2) (mid low : BitVec 3) : Byte := mod ++ mid ++ low

/-- An operand byte from its three fields, with no bytes after it. -/
def rmBits (mod : BitVec 2) (mid low : BitVec 3) : List Byte := [rmByte mod mid low]

/-- An operand byte that names a register. -/
def rmReg (mid : BitVec 3) (r : Reg) : List Byte := rmBits 3 mid r.bits

/-- An operand byte that names memory, and its displacement (R140). -/
def rmMem (mid : BitVec 3) : Mem → List Byte
  | .ind f => rmBits 0 mid f.bits
  | .disp8 f disp => rmBits 1 mid f.bits ++ [disp]
  | .disp16 f disp => rmBits 2 mid f.bits ++ wordBytes disp
  | .direct addr => rmBits 0 mid 6 ++ wordBytes addr

/-- An immediate of an operand's width (R136). -/
def immBytes : Width → Word → List Byte
  | .byte, imm => [loByte imm]
  | .word, imm => wordBytes imm

/-- The immediate of the group 80H to 83H (R152 (a)). -/
def SW.immBytes : SW → Word → List Byte
  | .w81, imm => wordBytes imm
  | .b80, imm | .b82, imm | .w83, imm => [loByte imm]

/-- The bytes of an instruction, first byte first, from the encoding column of spec/opcode_table.json. -/
def encode : Instr → List Byte
  | .movRegReg w d r => opW 0x8A w :: rmReg d.bits r
  | .movMemReg w m r => opW 0x88 w :: rmMem r.bits m
  | .movRegMem w r m => opW 0x8A w :: rmMem r.bits m
  | .movMemImm w m imm => opW 0xC6 w :: (rmMem 0 m ++ immBytes w imm)
  | .movRegImm w r imm => opRegW 0xB0 w r :: immBytes w imm
  | .movAccDmem w addr => opW 0xA0 w :: wordBytes addr
  | .movDmemAcc w addr => opW 0xA2 w :: wordBytes addr
  | .movSregReg16 sr r => 0x8E :: rmReg sr.field r
  | .movSregMem16 sr m => 0x8E :: rmMem sr.field m
  | .movReg16Sreg r sr => 0x8C :: rmReg sr.field r
  | .movMem16Sreg m sr => 0x8C :: rmMem sr.field m
  | .movDs0Reg16Mem32 r m => 0xC5 :: rmMem r.bits m
  | .movDs1Reg16Mem32 r m => 0xC4 :: rmMem r.bits m
  | .movAhPsw => [0x9F]
  | .movPswAh => [0x9E]
  | .ldea r m => 0x8D :: rmMem r.bits m
  | .trans => [0xD7]
  | .xchRegReg w d r => opW 0x86 w :: rmReg d.bits r
  | .xchMemReg w m r => opW 0x86 w :: rmMem r.bits m
  | .xchAwReg16 r => [opReg 0x90 r]
  | .repc => [0x65]
  | .repnc => [0x64]
  | .rep => [0xF3]
  | .repne => [0xF2]
  | .movbk w => [opW 0xA4 w]
  | .cmpbk w => [opW 0xA6 w]
  | .cmpm w => [opW 0xAE w]
  | .ldm w => [opW 0xAC w]
  | .stm w => [opW 0xAA w]
  | .insReg8Reg8 r1 r2 => 0x0F :: 0x31 :: rmReg r2.bits r1
  | .insReg8Imm4 r i => 0x0F :: 0x39 :: (rmReg 0 r ++ [i])
  | .extReg8Reg8 r1 r2 => 0x0F :: 0x33 :: rmReg r2.bits r1
  | .extReg8Imm4 r i => 0x0F :: 0x3B :: (rmReg 0 r ++ [i])
  | .inAccImm8 w port => [opW 0xE4 w, port]
  | .inAccDw w => [opW 0xEC w]
  | .outImm8Acc w port => [opW 0xE6 w, port]
  | .outDwAcc w => [opW 0xEE w]
  | .inm w => [opW 0x6C w]
  | .outm w => [opW 0x6E w]
  | .addRegReg w d r => opW 0x02 w :: rmReg d.bits r
  | .addMemReg w m r => opW 0x00 w :: rmMem r.bits m
  | .addRegMem w r m => opW 0x02 w :: rmMem r.bits m
  | .addRegImm sw r imm => sw.opcode :: (rmReg 0 r ++ sw.immBytes imm)
  | .addMemImm sw m imm => sw.opcode :: (rmMem 0 m ++ sw.immBytes imm)
  | .addAccImm w imm => opW 0x04 w :: immBytes w imm
  | .addcRegReg w d r => opW 0x12 w :: rmReg d.bits r
  | .addcMemReg w m r => opW 0x10 w :: rmMem r.bits m
  | .addcRegMem w r m => opW 0x12 w :: rmMem r.bits m
  | .addcRegImm sw r imm => sw.opcode :: (rmReg 2 r ++ sw.immBytes imm)
  | .addcMemImm sw m imm => sw.opcode :: (rmMem 2 m ++ sw.immBytes imm)
  | .addcAccImm w imm => opW 0x14 w :: immBytes w imm
  | .subRegReg w d r => opW 0x2A w :: rmReg d.bits r
  | .subMemReg w m r => opW 0x28 w :: rmMem r.bits m
  | .subRegMem w r m => opW 0x2A w :: rmMem r.bits m
  | .subRegImm sw r imm => sw.opcode :: (rmReg 5 r ++ sw.immBytes imm)
  | .subMemImm sw m imm => sw.opcode :: (rmMem 5 m ++ sw.immBytes imm)
  | .subAccImm w imm => opW 0x2C w :: immBytes w imm
  | .subcRegReg w d r => opW 0x1A w :: rmReg d.bits r
  | .subcMemReg w m r => opW 0x18 w :: rmMem r.bits m
  | .subcRegMem w r m => opW 0x1A w :: rmMem r.bits m
  | .subcRegImm sw r imm => sw.opcode :: (rmReg 3 r ++ sw.immBytes imm)
  | .subcMemImm sw m imm => sw.opcode :: (rmMem 3 m ++ sw.immBytes imm)
  | .subcAccImm w imm => opW 0x1C w :: immBytes w imm
  | .add4s => [0x0F, 0x20]
  | .sub4s => [0x0F, 0x22]
  | .cmp4s => [0x0F, 0x26]
  | .rol4Reg8 r => 0x0F :: 0x28 :: rmReg 0 r
  | .rol4Mem8 m => 0x0F :: 0x28 :: rmMem 0 m
  | .ror4Reg8 r => 0x0F :: 0x2A :: rmReg 0 r
  | .ror4Mem8 m => 0x0F :: 0x2A :: rmMem 0 m
  | .incReg8 r => 0xFE :: rmReg 0 r
  | .incMem w m => opW 0xFE w :: rmMem 0 m
  | .incReg16 r => [opReg 0x40 r]
  | .decReg8 r => 0xFE :: rmReg 1 r
  | .decMem w m => opW 0xFE w :: rmMem 1 m
  | .decReg16 r => [opReg 0x48 r]
  | .muluReg8 r => 0xF6 :: rmReg 4 r
  | .muluMem8 m => 0xF6 :: rmMem 4 m
  | .muluReg16 r => 0xF7 :: rmReg 4 r
  | .muluMem16 m => 0xF7 :: rmMem 4 m
  | .mulReg8 r => 0xF6 :: rmReg 5 r
  | .mulMem8 m => 0xF6 :: rmMem 5 m
  | .mulReg16 r => 0xF7 :: rmReg 5 r
  | .mulMem16 m => 0xF7 :: rmMem 5 m
  | .mulReg16Reg16Imm8 d r i => 0x6B :: (rmReg d.bits r ++ [i])
  | .mulReg16Mem16Imm8 d m i => 0x6B :: (rmMem d.bits m ++ [i])
  | .mulReg16Reg16Imm16 d r imm => 0x69 :: (rmReg d.bits r ++ wordBytes imm)
  | .mulReg16Mem16Imm16 d m imm => 0x69 :: (rmMem d.bits m ++ wordBytes imm)
  | .divuReg8 r => 0xF6 :: rmReg 6 r
  | .divuMem8 m => 0xF6 :: rmMem 6 m
  | .divuReg16 r => 0xF7 :: rmReg 6 r
  | .divuMem16 m => 0xF7 :: rmMem 6 m
  | .divReg8 r => 0xF6 :: rmReg 7 r
  | .divMem8 m => 0xF6 :: rmMem 7 m
  | .divReg16 r => 0xF7 :: rmReg 7 r
  | .divMem16 m => 0xF7 :: rmMem 7 m
  | .adjba => [0x37]
  | .adj4a => [0x27]
  | .adjbs => [0x3F]
  | .adj4s => [0x2F]
  | .cvtbd => [0xD4, 0x0A]
  | .cvtdb => [0xD5, 0x0A]
  | .cvtbw => [0x98]
  | .cvtwl => [0x99]
  | .cmpRegReg w d r => opW 0x3A w :: rmReg d.bits r
  | .cmpMemReg w m r => opW 0x38 w :: rmMem r.bits m
  | .cmpRegMem w r m => opW 0x3A w :: rmMem r.bits m
  | .cmpRegImm sw r imm => sw.opcode :: (rmReg 7 r ++ sw.immBytes imm)
  | .cmpMemImm sw m imm => sw.opcode :: (rmMem 7 m ++ sw.immBytes imm)
  | .cmpAccImm w imm => opW 0x3C w :: immBytes w imm
  | .notReg w r => opW 0xF6 w :: rmReg 2 r
  | .notMem w m => opW 0xF6 w :: rmMem 2 m
  | .negReg w r => opW 0xF6 w :: rmReg 3 r
  | .negMem w m => opW 0xF6 w :: rmMem 3 m
  | .testRegReg w d r => opW 0x84 w :: rmReg d.bits r
  | .testMemReg w m r => opW 0x84 w :: rmMem r.bits m
  | .testRegImm w r imm => opW 0xF6 w :: (rmReg 0 r ++ immBytes w imm)
  | .testMemImm w m imm => opW 0xF6 w :: (rmMem 0 m ++ immBytes w imm)
  | .testAccImm w imm => opW 0xA8 w :: immBytes w imm
  | .andRegReg w d r => opW 0x22 w :: rmReg d.bits r
  | .andMemReg w m r => opW 0x20 w :: rmMem r.bits m
  | .andRegMem w r m => opW 0x22 w :: rmMem r.bits m
  | .andRegImm w r imm => opW 0x80 w :: (rmReg 4 r ++ immBytes w imm)
  | .andMemImm w m imm => opW 0x80 w :: (rmMem 4 m ++ immBytes w imm)
  | .andAccImm w imm => opW 0x24 w :: immBytes w imm
  | .orRegReg w d r => opW 0x0A w :: rmReg d.bits r
  | .orMemReg w m r => opW 0x08 w :: rmMem r.bits m
  | .orRegMem w r m => opW 0x0A w :: rmMem r.bits m
  | .orRegImm w r imm => opW 0x80 w :: (rmReg 1 r ++ immBytes w imm)
  | .orMemImm w m imm => opW 0x80 w :: (rmMem 1 m ++ immBytes w imm)
  | .orAccImm w imm => opW 0x0C w :: immBytes w imm
  | .xorRegReg w d r => opW 0x32 w :: rmReg d.bits r
  | .xorMemReg w m r => opW 0x30 w :: rmMem r.bits m
  | .xorRegMem w r m => opW 0x32 w :: rmMem r.bits m
  | .xorRegImm w r imm => opW 0x80 w :: (rmReg 6 r ++ immBytes w imm)
  | .xorMemImm w m imm => opW 0x80 w :: (rmMem 6 m ++ immBytes w imm)
  | .xorAccImm w imm => opW 0x34 w :: immBytes w imm
  | .test1Reg8Cl r => 0x0F :: 0x10 :: rmReg 0 r
  | .test1Mem8Cl m => 0x0F :: 0x10 :: rmMem 0 m
  | .test1Reg16Cl r => 0x0F :: 0x11 :: rmReg 0 r
  | .test1Mem16Cl m => 0x0F :: 0x11 :: rmMem 0 m
  | .test1Reg8Imm r i => 0x0F :: 0x18 :: (rmReg 0 r ++ [i])
  | .test1Mem8Imm m i => 0x0F :: 0x18 :: (rmMem 0 m ++ [i])
  | .test1Reg16Imm r i => 0x0F :: 0x19 :: (rmReg 0 r ++ [i])
  | .test1Mem16Imm m i => 0x0F :: 0x19 :: (rmMem 0 m ++ [i])
  | .not1Reg8Cl r => 0x0F :: 0x16 :: rmReg 0 r
  | .not1Mem8Cl m => 0x0F :: 0x16 :: rmMem 0 m
  | .not1Reg16Cl r => 0x0F :: 0x17 :: rmReg 0 r
  | .not1Mem16Cl m => 0x0F :: 0x17 :: rmMem 0 m
  | .not1Reg8Imm r i => 0x0F :: 0x1E :: (rmReg 0 r ++ [i])
  | .not1Mem8Imm m i => 0x0F :: 0x1E :: (rmMem 0 m ++ [i])
  | .not1Reg16Imm r i => 0x0F :: 0x1F :: (rmReg 0 r ++ [i])
  | .not1Mem16Imm m i => 0x0F :: 0x1F :: (rmMem 0 m ++ [i])
  | .not1Cy => [0xF5]
  | .clr1Reg8Cl r => 0x0F :: 0x12 :: rmReg 0 r
  | .clr1Mem8Cl m => 0x0F :: 0x12 :: rmMem 0 m
  | .clr1Reg16Cl r => 0x0F :: 0x13 :: rmReg 0 r
  | .clr1Mem16Cl m => 0x0F :: 0x13 :: rmMem 0 m
  | .clr1Reg8Imm r i => 0x0F :: 0x1A :: (rmReg 0 r ++ [i])
  | .clr1Mem8Imm m i => 0x0F :: 0x1A :: (rmMem 0 m ++ [i])
  | .clr1Reg16Imm r i => 0x0F :: 0x1B :: (rmReg 0 r ++ [i])
  | .clr1Mem16Imm m i => 0x0F :: 0x1B :: (rmMem 0 m ++ [i])
  | .clr1Cy => [0xF8]
  | .clr1Dir => [0xFC]
  | .set1Reg8Cl r => 0x0F :: 0x14 :: rmReg 0 r
  | .set1Mem8Cl m => 0x0F :: 0x14 :: rmMem 0 m
  | .set1Reg16Cl r => 0x0F :: 0x15 :: rmReg 0 r
  | .set1Mem16Cl m => 0x0F :: 0x15 :: rmMem 0 m
  | .set1Reg8Imm r i => 0x0F :: 0x1C :: (rmReg 0 r ++ [i])
  | .set1Mem8Imm m i => 0x0F :: 0x1C :: (rmMem 0 m ++ [i])
  | .set1Reg16Imm r i => 0x0F :: 0x1D :: (rmReg 0 r ++ [i])
  | .set1Mem16Imm m i => 0x0F :: 0x1D :: (rmMem 0 m ++ [i])
  | .set1Cy => [0xF9]
  | .set1Dir => [0xFD]
  | .shlReg1 w r => opW 0xD0 w :: rmReg 4 r
  | .shlMem1 w m => opW 0xD0 w :: rmMem 4 m
  | .shlRegCl w r => opW 0xD2 w :: rmReg 4 r
  | .shlMemCl w m => opW 0xD2 w :: rmMem 4 m
  | .shlRegImm8 w r i => opW 0xC0 w :: (rmReg 4 r ++ [i])
  | .shlMemImm8 w m i => opW 0xC0 w :: (rmMem 4 m ++ [i])
  | .shrReg1 w r => opW 0xD0 w :: rmReg 5 r
  | .shrMem1 w m => opW 0xD0 w :: rmMem 5 m
  | .shrRegCl w r => opW 0xD2 w :: rmReg 5 r
  | .shrMemCl w m => opW 0xD2 w :: rmMem 5 m
  | .shrRegImm8 w r i => opW 0xC0 w :: (rmReg 5 r ++ [i])
  | .shrMemImm8 w m i => opW 0xC0 w :: (rmMem 5 m ++ [i])
  | .shraReg1 w r => opW 0xD0 w :: rmReg 7 r
  | .shraMem1 w m => opW 0xD0 w :: rmMem 7 m
  | .shraRegCl w r => opW 0xD2 w :: rmReg 7 r
  | .shraMemCl w m => opW 0xD2 w :: rmMem 7 m
  | .shraRegImm8 w r i => opW 0xC0 w :: (rmReg 7 r ++ [i])
  | .shraMemImm8 w m i => opW 0xC0 w :: (rmMem 7 m ++ [i])
  | .rolReg1 w r => opW 0xD0 w :: rmReg 0 r
  | .rolMem1 w m => opW 0xD0 w :: rmMem 0 m
  | .rolRegCl w r => opW 0xD2 w :: rmReg 0 r
  | .rolMemCl w m => opW 0xD2 w :: rmMem 0 m
  | .rolRegImm8 w r i => opW 0xC0 w :: (rmReg 0 r ++ [i])
  | .rolMemImm8 w m i => opW 0xC0 w :: (rmMem 0 m ++ [i])
  | .rorReg1 w r => opW 0xD0 w :: rmReg 1 r
  | .rorMem1 w m => opW 0xD0 w :: rmMem 1 m
  | .rorRegCl w r => opW 0xD2 w :: rmReg 1 r
  | .rorMemCl w m => opW 0xD2 w :: rmMem 1 m
  | .rorRegImm8 w r i => opW 0xC0 w :: (rmReg 1 r ++ [i])
  | .rorMemImm8 w m i => opW 0xC0 w :: (rmMem 1 m ++ [i])
  | .rolcReg1 w r => opW 0xD0 w :: rmReg 2 r
  | .rolcMem1 w m => opW 0xD0 w :: rmMem 2 m
  | .rolcRegCl w r => opW 0xD2 w :: rmReg 2 r
  | .rolcMemCl w m => opW 0xD2 w :: rmMem 2 m
  | .rolcRegImm8 w r i => opW 0xC0 w :: (rmReg 2 r ++ [i])
  | .rolcMemImm8 w m i => opW 0xC0 w :: (rmMem 2 m ++ [i])
  | .rorcReg1 w r => opW 0xD0 w :: rmReg 3 r
  | .rorcMem1 w m => opW 0xD0 w :: rmMem 3 m
  | .rorcRegCl w r => opW 0xD2 w :: rmReg 3 r
  | .rorcMemCl w m => opW 0xD2 w :: rmMem 3 m
  | .rorcRegImm8 w r i => opW 0xC0 w :: (rmReg 3 r ++ [i])
  | .rorcMemImm8 w m i => opW 0xC0 w :: (rmMem 3 m ++ [i])
  | .callNear disp => 0xE8 :: wordBytes disp
  | .callReg16 r => 0xFF :: rmReg 2 r
  | .callMem16 m => 0xFF :: rmMem 2 m
  | .callFar off seg => 0x9A :: (wordBytes off ++ wordBytes seg)
  | .callMem32 m => 0xFF :: rmMem 3 m
  | .retNear => [0xC3]
  | .retNearPop n => 0xC2 :: wordBytes n
  | .retFar => [0xCB]
  | .retFarPop n => 0xCA :: wordBytes n
  | .brNear disp => 0xE9 :: wordBytes disp
  | .brShort disp => [0xEB, disp]
  | .brReg16 r => 0xFF :: rmReg 4 r
  | .brMem16 m => 0xFF :: rmMem 4 m
  | .brFar off seg => 0xEA :: (wordBytes off ++ wordBytes seg)
  | .brMem32 m => 0xFF :: rmMem 5 m
  | .pushMem16 m => 0xFF :: rmMem 6 m
  | .pushReg16 r => [opReg 0x50 r]
  | .pushSreg sr => [opSreg 0x06 sr]
  | .pushPsw => [0x9C]
  | .pushR => [0x60]
  | .pushImm8 i => [0x6A, i]
  | .pushImm16 imm => 0x68 :: wordBytes imm
  | .popMem16 m => 0x8F :: rmMem 0 m
  | .popReg16 r => [opReg 0x58 r]
  | .popSreg sr => [opSreg 0x07 sr]
  | .popPsw => [0x9D]
  | .popR => [0x61]
  | .prepare size level => 0xC8 :: (wordBytes size ++ [level])
  | .dispose => [0xC9]
  | .bv disp => [0x70, disp]
  | .bnv disp => [0x71, disp]
  | .bc disp => [0x72, disp]
  | .bnc disp => [0x73, disp]
  | .be disp => [0x74, disp]
  | .bne disp => [0x75, disp]
  | .bnh disp => [0x76, disp]
  | .bh disp => [0x77, disp]
  | .bn disp => [0x78, disp]
  | .bp disp => [0x79, disp]
  | .bpe disp => [0x7A, disp]
  | .bpo disp => [0x7B, disp]
  | .blt disp => [0x7C, disp]
  | .bge disp => [0x7D, disp]
  | .ble disp => [0x7E, disp]
  | .bgt disp => [0x7F, disp]
  | .dbnzne disp => [0xE0, disp]
  | .dbnze disp => [0xE1, disp]
  | .dbnz disp => [0xE2, disp]
  | .bcwz disp => [0xE3, disp]
  | .brk3 => [0xCC]
  | .brkImm8 n => [0xCD, n]
  | .brkv => [0xCE]
  | .reti => [0xCF]
  | .brkem n => [0x0F, 0xFF, n]
  | .chkind r m => 0x62 :: rmMem r.bits m
  | .halt => [0xF4]
  | .di => [0xFA]
  | .poll => [0x9B]
  | .ei => [0xFB]
  | .buslock => [0xF0]
  | .nop => [0x90]
  | .fpo1 x y z => op3 0xD8 x :: rmBits 3 y z
  | .fpo1Mem x y m => op3 0xD8 x :: rmMem y m
  | .fpo2 x y z => opBit 0x66 x :: rmBits 3 y z
  | .fpo2Mem x y m => opBit 0x66 x :: rmMem y m
  | .segOverride sr => [opSreg 0x26 sr]
  | .calln n => [0xED, 0xED, n]
  | .retem => [0xED, 0xFD]
  | .movRegRegAlt w d r => opW 0x88 w :: rmReg r.bits d
  | .movRegImmAlt w r imm => opW 0xC6 w :: (rmReg 0 r ++ immBytes w imm)
  | .addRegRegAlt w d r => opW 0x00 w :: rmReg r.bits d
  | .addcRegRegAlt w d r => opW 0x10 w :: rmReg r.bits d
  | .subRegRegAlt w d r => opW 0x28 w :: rmReg r.bits d
  | .subcRegRegAlt w d r => opW 0x18 w :: rmReg r.bits d
  | .incReg16Alt r => 0xFF :: rmReg 0 r
  | .decReg16Alt r => 0xFF :: rmReg 1 r
  | .cmpRegRegAlt w d r => opW 0x38 w :: rmReg r.bits d
  | .andRegRegAlt w d r => opW 0x20 w :: rmReg r.bits d
  | .andRegImmAlt w r i => opW 0x82 w :: (rmReg 4 r ++ [i])
  | .andMemImmAlt w m i => opW 0x82 w :: (rmMem 4 m ++ [i])
  | .orRegRegAlt w d r => opW 0x08 w :: rmReg r.bits d
  | .orRegImmAlt w r i => opW 0x82 w :: (rmReg 1 r ++ [i])
  | .orMemImmAlt w m i => opW 0x82 w :: (rmMem 1 m ++ [i])
  | .xorRegRegAlt w d r => opW 0x30 w :: rmReg r.bits d
  | .xorRegImmAlt w r i => opW 0x82 w :: (rmReg 6 r ++ [i])
  | .xorMemImmAlt w m i => opW 0x82 w :: (rmMem 6 m ++ [i])
  | .pushReg16Alt r => 0xFF :: rmReg 6 r
  | .popReg16Alt r => 0x8F :: rmReg 0 r

/-! ## The host's reading of the opcode table -/

/-- The first `n` bytes of an instruction whose bits are `w` (the first byte the most significant of them, as
spec/opcode_table.json numbers them), at the front of bytes of zeros. -/
def tableBytes : Nat → Nat → List Byte
  | 0, _ => List.replicate 6 0
  | n + 1, w => BitVec.ofNat 8 (w >>> (8 * n)) :: tableBytes n w

/-- The mode in which a row of the table with this many bits is decoded: the rows of two bytes whose first is EDH are
the two of the emulation mode, every other row is native (R155). -/
def tableNative (nbits w : Nat) : Bool :=
  !(nbits ≥ 16 && (w >>> (nbits - 8)) % 256 == 0xED)

/-- The instruction that the decoder reads from an instruction whose bits are `w`, every byte after the first
`nbits / 8` being zero. -/
def decodeTableWord (nbits w : Nat) : Option Instr :=
  match decode (tableNative nbits w) (tableBytes (nbits / 8) w) with
  | .ok (i, _) => some i
  | .error _ => none

end Sys2Proof

end
end

