-- ==== Sys2Proof/Config.lean ====
section
/-! DEFINITION. What is fixed for one machine and not by the spec (93_implementation_defined.md), and the free values.
A free value is a constant without a body: nothing can be proved of which value it is. -/

namespace Sys2Proof

/-- Parameter P1: which of the two chips (R9, D1). -/
inductive Variant
  | v20
  | v30
deriving DecidableEq, Repr, Inhabited

/-- Parameter P1: the level of the S/LG pin (R10, D1). -/
inductive SystemMode
  | small
  | large
deriving DecidableEq, Repr, Inhabited

/-- Parameter P5: the word that PUSH SP stores (R634, D44). -/
inductive PushSpValue
  | old
  | new
deriving DecidableEq, Repr

/-- P1 has no default: the chip is left open. -/
opaque Config.variant : Variant

/-- P1 has no default: the system mode is left open. -/
opaque Config.systemMode : SystemMode

/-- The depth of the prefetch queue, `queue_bytes`: 4 bytes in the V20, 6 in the V30 (R51, R104). -/
def Config.queueBytes : Nat :=
  match Config.variant with
  | .v20 => 4
  | .v30 => 6

/-- P5 at the spec's default (D44). DESIGN CHOICE of the spec. -/
def Config.pushSpValue : PushSpValue := .old

/-- Parameter P6, `chkind_signed`, at the spec's default (D46). DESIGN CHOICE of the spec. -/
def Config.chkindSigned : Bool := true

/-- The free values of the machine: the value of the `k`-th word that the spec calls undefined (treatment `any value`
of 93_implementation_defined.md). The state counts how many have been drawn. -/
opaque Config.freeValue : Nat → Word

/-- What a device answers to the `k`-th byte read of the I/O space for which the host has listed no answer: parameter
P2, a function of anything (R96). -/
opaque Config.ioByte : Nat → Word → Byte

end Sys2Proof
end

