-- ==== Sys2Proof/Machine/State.lean ====
section
/-! DEFINITION. The state of the machine, plain data, with every piece of state that the spec names (10_state.md), the
reasons a step can stop, and the state right after reset. -/

namespace Sys2Proof.Machine

/-- The ten flags of the PSW (R40 to R45). The six fixed bits of its image are not state (R40, D13). -/
structure Psw where
  /-- MD, bit 15: native mode (R41). -/
  md : Bool
  /-- V, bit 11: overflow. -/
  v : Bool
  /-- DIR, bit 10: direction of the block instructions (R42). -/
  dir : Bool
  /-- IE, bit 9: interrupt enable (R43). -/
  ie : Bool
  /-- BRK, bit 8: single step (R44). -/
  brk : Bool
  /-- S, bit 7: sign. -/
  s : Bool
  /-- Z, bit 6: zero. -/
  z : Bool
  /-- AC, bit 4: auxiliary carry. -/
  ac : Bool
  /-- P, bit 2: parity. -/
  p : Bool
  /-- CY, bit 0: carry. -/
  cy : Bool
deriving DecidableEq, Repr

/-- The prefixes read since the last complete instruction (R56, R135): empty between instructions. -/
structure Prefixes where
  /-- The last segment override (D57). -/
  seg : Option Sreg
  /-- The repeat prefix (R241 to R245). -/
  rep : Option Rep
  /-- BUSLOCK stands before the opcode (R694). -/
  lock : Bool
  /-- `k`, how many prefix bytes there are (R135, R768). -/
  count : Nat
deriving DecidableEq, Repr

/-- No prefix. -/
def Prefixes.none : Prefixes := { seg := Option.none, rep := Option.none, lock := false, count := 0 }

/-- What the platform drives on the input pins at one sampling point (R745). -/
structure Inputs where
  /-- The RESET pin is high. -/
  reset : Bool
  /-- The NMI pin has risen since the sampling point before. -/
  nmiEdge : Bool
  /-- The INT pin is high. -/
  intLevel : Bool
  /-- The byte of the second interrupt acknowledge cycle (R762). -/
  intVector : Byte
  /-- The POLL pin is high. -/
  pollHigh : Bool
deriving DecidableEq, Repr

/-- No input is active. -/
def Inputs.idle : Inputs :=
  { reset := false, nmiEdge := false, intLevel := false, intVector := 0, pollHigh := false }

/-- The control outputs whose level in standby Table 9-1 fixes (R784). -/
inductive ControlPin
  | qs1
  | qs0
  | bs2
  | bs1
  | bs0
  | buslock
  | intak
  | bufen
  | wr
  | rd
  | astb
  | ube
deriving DecidableEq, Repr

/-- The whole state. Registers first, then the hidden state of R51 to R56, then what the platform supplies, then
memory. The model's own fields are `suspended`, `prefetchPlan`, `queueBefore`, `ioCtr` and `freeCtr`. -/
structure State where
  /-- AW (R30), AH : AL. -/
  aw : Word
  /-- BW (R30), BH : BL. -/
  bw : Word
  /-- CW (R30), CH : CL. -/
  cw : Word
  /-- DW (R30), DH : DL. -/
  dw : Word
  /-- SP, the stack pointer (R35). -/
  sp : Word
  /-- BP, the base pointer (R35). -/
  bp : Word
  /-- IX, an index register (R35). -/
  ix : Word
  /-- IY, an index register (R35). -/
  iy : Word
  /-- PS, the program segment (R37). -/
  ps : Word
  /-- SS, the stack segment (R37). -/
  ss : Word
  /-- DS0, data segment 0 (R37). -/
  ds0 : Word
  /-- DS1, data segment 1 (R37). -/
  ds1 : Word
  /-- PC, an offset from PS (R38). -/
  pc : Word
  /-- The program status word (R40). -/
  psw : Psw
  /-- `md_we`, the MD write-enable latch (R54). -/
  mdWe : Bool
  /-- `nmi_pending`, the pending-NMI latch (R52). -/
  nmiPending : Bool
  /-- `inhibit_all` of the instruction just completed (R53, R765); it stays until the next one has completed. -/
  inhibitAll : Bool
  /-- `inhibit_int` of the instruction just completed (R53, R765); it stays until the next one has completed. -/
  inhibitInt : Bool
  /-- `halted`: standby (R55). -/
  halted : Bool
  /-- BUSLOCK stood before the HALT that entered standby: its signal stays active there (R784). -/
  haltLock : Bool
  /-- A repeated block instruction has stopped between two elements for an interrupt or a reset, which the end of the
  same step takes (R768). -/
  suspended : Bool
  /-- The prefixes of the instruction that is being read (R56). -/
  pfx : Prefixes
  /-- The prefetch queue, oldest byte first (R51). PFP is PC plus its length. -/
  queue : List Byte
  /-- The model's own: how many bytes the BCU prefetches at each coming opportunity, none when the list is used up
  (R104 leaves it open). -/
  prefetchPlan : List Nat
  /-- The model's own: the queue as it was before the first byte of the instruction that is being read or run, which
  POLL puts back where it is to be tried again (R692, D47). -/
  queueBefore : List Byte
  /-- The input pins as last sampled (R745). -/
  pins : Inputs
  /-- What the platform drives at the coming sampling points; the pins stay as they are when the list is used up. -/
  inputs : List Inputs
  /-- What devices answer to the coming byte reads of the I/O space (P2). -/
  ioIn : List Byte
  /-- How many byte reads of the I/O space have been made. -/
  ioCtr : Nat
  /-- The byte writes to the I/O space, the latest first: port and value (P2). -/
  ioOut : List (Word × Byte)
  /-- The model's own: how many free values have been drawn. -/
  freeCtr : Nat
  /-- The memory: physical address and byte, in the canonical form of `Memory.wf` (R80). -/
  mem : List Host.Cell
deriving DecidableEq, Repr

/-- The machine has no event that stops it with a fault: every exception it raises is an interrupt, which is entered
(R740, R775). So no meaning raises a fault and the type has no constructor. Safe. -/
inductive Fault
deriving DecidableEq, Repr

/-- Why the model has no next state. -/
inductive Refusal
  /-- Raised by an arm of `exec` whose instruction has no meaning yet. Safe: nothing can be proved past it. -/
  | notModelled (mnemonic : String)
  /-- Raised by `step` where the bytes at PS:PC are no instruction of the spec (treatment `refuse` of X1, X2, X3). Safe:
  the hardware may go on, and no claim says how. -/
  | undecodable (e : DecodeError)
  /-- The outcome `Unspecified8080`: raised by `step` for an 8080 instruction in the emulation mode while parameter P7,
  `exec8080`, is absent (X5, R722, D2). Safe. -/
  | unspecified8080
  /-- Raised by `step` for a repeat prefix in a combination that the spec refuses (X4, R246). Safe. -/
  | repeatCombination
  /-- Raised by BRKEM while the MD write-enable latch is set: "normal operation cannot be expected" (U8, R732). Safe. -/
  | brkemNested
deriving DecidableEq, Repr

/-- What an instruction or a step answers. -/
abbrev Result := Host.Outcome State Fault Refusal

/-- The flags after reset. MD, DIR, IE and BRK as R59 says. The six status flags are undefined (R60, U1): DESIGN CHOICE
0, unsafe. -/
def Psw.reset : Psw :=
  { md := true, v := false, dir := false, ie := false, brk := false, s := false, z := false, ac := false, p := false,
    cy := false }

/-- The machine right after reset (R59, R800). The eight general registers, pointers and index registers are undefined
(R60, U1): DESIGN CHOICE 0, unsafe. The hidden state is clear (D13, D28). -/
def State.reset : State :=
  { aw := 0, bw := 0, cw := 0, dw := 0, sp := 0, bp := 0, ix := 0, iy := 0
    ps := 0xFFFF, ss := 0, ds0 := 0, ds1 := 0, pc := 0, psw := Psw.reset
    mdWe := false, nmiPending := false, inhibitAll := false, inhibitInt := false, halted := false, haltLock := false
    suspended := false, pfx := Prefixes.none, queue := [], prefetchPlan := [], queueBefore := [], pins := Inputs.idle, inputs := []
    ioIn := [], ioCtr := 0, ioOut := [], freeCtr := 0, mem := [] }

end Sys2Proof.Machine
end

