-- ==== Sys2Proof/Machine/Ops.lean ====
section
/-! DEFINITION. The named operations over memory, registers, stack, ports, prefetch queue and program counter, the
entry of an interrupt and the return from one. -/

namespace Sys2Proof.Machine

/-! ## Memory -/

/-- What an unlisted address reads as. The spec gives memory no reset contents (R95, R805): DESIGN CHOICE 00H,
unsafe. -/
def Memory.unlisted : Byte := 0

/-- The byte at a physical address. -/
def Memory.read : List Host.Cell → Nat → Byte
  | [], _ => Memory.unlisted
  | (k, b) :: rest, a => if a = k then b else Memory.read rest a

/-- Memory with one byte replaced; the canonical form is kept. -/
def Memory.write : List Host.Cell → Nat → Byte → List Host.Cell
  | [], a, v => if v = Memory.unlisted then [] else [(a, v)]
  | (k, b) :: rest, a, v =>
    if a < k then
      if v = Memory.unlisted then (k, b) :: rest else (a, v) :: (k, b) :: rest
    else if a = k then
      if v = Memory.unlisted then rest else (a, v) :: rest
    else (k, b) :: Memory.write rest a v

/-- Addresses rise strictly from `lo`, lie in the 2^20 bytes of R80, and no entry is what an unlisted address reads
as. -/
def Memory.wfFrom : Nat → List Host.Cell → Bool
  | _, [] => true
  | lo, (k, b) :: rest =>
    decide (lo ≤ k) && decide (k < 2 ^ 20) && (b != Memory.unlisted) && Memory.wfFrom (k + 1) rest

/-- The canonical form of memory. -/
def Memory.wf (m : List Host.Cell) : Bool := Memory.wfFrom 0 m

/-- `phys(seg, off) = (seg * 16 + off) mod 2^20` (R83, D6). -/
def phys (seg off : Word) : PhysAddr := seg.setWidth 20 * 16 + off.setWidth 20

/-- `Read8` (R87). -/
def State.readByte (s : State) (seg off : Word) : Byte := Memory.read s.mem (phys seg off).toNat

/-- `Write8` (R87). -/
def State.writeByte (s : State) (seg off : Word) (v : Byte) : State :=
  { s with mem := Memory.write s.mem (phys seg off).toNat v }

/-- `Read16`: the high byte is at the next offset, which wraps inside the segment (R87, D5). -/
def State.readWord (s : State) (seg off : Word) : Word := mkWord (s.readByte seg (off + 1)) (s.readByte seg off)

/-- `Write16`: low byte first (R87, R93). -/
def State.writeWord (s : State) (seg off : Word) (v : Word) : State :=
  (s.writeByte seg off (loByte v)).writeByte seg (off + 1) (hiByte v)

/-- `Read[W]` (R145). -/
def State.readMem (s : State) (w : Width) (seg off : Word) : BitVec w.bits :=
  match w with
  | .byte => s.readByte seg off
  | .word => s.readWord seg off

/-- `Write[W]` (R145). -/
def State.writeMem (s : State) (w : Width) (seg off : Word) (v : BitVec w.bits) : State :=
  match w, v with
  | .byte, v => s.writeByte seg off v
  | .word, v => s.writeWord seg off v

/-! ## Registers -/

/-- `reg16[r]` (R33). -/
def State.getReg16 (s : State) : Reg → Word
  | .al_aw => s.aw
  | .cl_cw => s.cw
  | .dl_dw => s.dw
  | .bl_bw => s.bw
  | .ah_sp => s.sp
  | .ch_bp => s.bp
  | .dh_ix => s.ix
  | .bh_iy => s.iy

/-- `reg16[r] <- v` (R33). -/
def State.setReg16 (s : State) (r : Reg) (v : Word) : State :=
  match r with
  | .al_aw => { s with aw := v }
  | .cl_cw => { s with cw := v }
  | .dl_dw => { s with dw := v }
  | .bl_bw => { s with bw := v }
  | .ah_sp => { s with sp := v }
  | .ch_bp => { s with bp := v }
  | .dh_ix => { s with ix := v }
  | .bh_iy => { s with iy := v }

/-- `reg8[r]`: a half of AW, BW, CW or DW (R32, R33). -/
def State.getReg8 (s : State) : Reg → Byte
  | .al_aw => loByte s.aw
  | .cl_cw => loByte s.cw
  | .dl_dw => loByte s.dw
  | .bl_bw => loByte s.bw
  | .ah_sp => hiByte s.aw
  | .ch_bp => hiByte s.cw
  | .dh_ix => hiByte s.dw
  | .bh_iy => hiByte s.bw

/-- `reg8[r] <- v`: the other half keeps its bits (R32). -/
def State.setReg8 (s : State) (r : Reg) (v : Byte) : State :=
  match r with
  | .al_aw => { s with aw := mkWord (hiByte s.aw) v }
  | .cl_cw => { s with cw := mkWord (hiByte s.cw) v }
  | .dl_dw => { s with dw := mkWord (hiByte s.dw) v }
  | .bl_bw => { s with bw := mkWord (hiByte s.bw) v }
  | .ah_sp => { s with aw := mkWord v (loByte s.aw) }
  | .ch_bp => { s with cw := mkWord v (loByte s.cw) }
  | .dh_ix => { s with dw := mkWord v (loByte s.dw) }
  | .bh_iy => { s with bw := mkWord v (loByte s.bw) }

/-- `reg[W][r]` (R33). -/
def State.getReg (s : State) (w : Width) (r : Reg) : BitVec w.bits :=
  match w with
  | .byte => s.getReg8 r
  | .word => s.getReg16 r

/-- `reg[W][r] <- v` (R33). -/
def State.setReg (s : State) (w : Width) (r : Reg) (v : BitVec w.bits) : State :=
  match w, v with
  | .byte, v => s.setReg8 r v
  | .word, v => s.setReg16 r v

/-- The value of a segment register (R36). -/
def State.getSreg (s : State) : Sreg → Word
  | .ds1 => s.ds1
  | .ps => s.ps
  | .ss => s.ss
  | .ds0 => s.ds0

/-- A segment register written (R37). PS is no destination of the instructions that call this (D10). -/
def State.setSreg (s : State) (sr : Sreg) (v : Word) : State :=
  match sr with
  | .ds1 => { s with ds1 := v }
  | .ps => { s with ps := v }
  | .ss => { s with ss := v }
  | .ds0 => { s with ds0 := v }

/-- AL. -/
def State.al (s : State) : Byte := s.getReg8 .al_aw

/-- AH. -/
def State.ah (s : State) : Byte := s.getReg8 .ah_sp

/-- CL. -/
def State.cl (s : State) : Byte := s.getReg8 .cl_cw

/-- AL written. -/
def State.setAl (s : State) (v : Byte) : State := s.setReg8 .al_aw v

/-- AH written. -/
def State.setAh (s : State) (v : Byte) : State := s.setReg8 .ah_sp v

/-! ## Free values -/

/-- The next free value (treatment `any value` of 93_implementation_defined.md). -/
def State.free (s : State) : Word := Config.freeValue s.freeCtr

/-- The free value has been used. -/
def State.drawn (s : State) : State := { s with freeCtr := s.freeCtr + 1 }

/-! ## Program counter and prefetch queue -/

/-- `pc <- target`: the queue is cleared (R39, R51). -/
def State.jump (s : State) (target : Word) : State := { s with pc := target, queue := [] }

/-- `PS <- seg; pc <- off`. -/
def State.jumpFar (s : State) (seg off : Word) : State := { s with ps := seg, pc := off, queue := [] }

/-- The byte `k` places after PC as the EXU gets it: from the queue, or from memory where the queue has ended (R38,
R104). -/
def State.fetchByte (s : State) (k : Nat) : Byte :=
  (s.queue[k]?).getD (s.readByte s.ps (s.pc + BitVec.ofNat 16 k))

/-- The bytes from PC on, as many as the longest instruction without prefixes has (R131). -/
def State.fetchWindow (s : State) : List Byte := (List.range 6).map s.fetchByte

/-- `n` bytes of program memory from an offset of PS on. -/
def State.programBytes (s : State) (off : Word) (n : Nat) : List Byte :=
  (List.range n).map fun k => s.readByte s.ps (off + BitVec.ofNat 16 k)

/-- The BCU prefetches from PFP as many bytes as the plan says and the queue has room for (R51, R104). -/
def State.prefetch (s : State) : State :=
  match s.prefetchPlan with
  | [] => s
  | n :: plan =>
    let room := min n (Config.queueBytes - s.queue.length)
    { s with
      queue := s.queue ++ s.programBytes (s.pc + BitVec.ofNat 16 s.queue.length) room
      prefetchPlan := plan }

/-- `len` bytes leave the queue: PC holds the offset after them (R38). With the first byte of an instruction, prefixes
included, the queue before it is noted for POLL. The inhibit windows of the instruction before stay until this one has
completed (R53, R808). -/
def State.issue (s : State) (len : Nat) : State :=
  State.prefetch
    { s with
      pc := s.pc + BitVec.ofNat 16 len
      queue := s.queue.drop len
      queueBefore := if s.pfx.count = 0 then s.queue else s.queueBefore
      suspended := false }

/-- The offset of the first byte of an instruction of one byte after its opcode has been read: PC less the opcode and
its prefixes (R38, R135). -/
def State.startOfOneByte (s : State) : Word := s.pc - 1 - BitVec.ofNat 16 s.pfx.count

/-! ## Stack -/

/-- `Push16` (R630): SS:SP, whatever the override. -/
def State.push (s : State) (v : Word) : State :=
  { s with sp := s.sp - 2 }.writeWord s.ss (s.sp - 2) v

/-- The word that `Pop16` reads (R631). -/
def State.popValue (s : State) : Word := s.readWord s.ss s.sp

/-- `Pop16` has read its word: SP has grown by 2 (R631). -/
def State.popped (s : State) : State := { s with sp := s.sp + 2 }

/-! ## The PSW as a word -/

/-- The PSW image (R40): MD 1 1 1 V DIR IE BRK S Z 0 AC 0 P 1 CY. -/
def Psw.image (f : Psw) : Word :=
  BitVec.ofBool f.md ++ (0b111 : BitVec 3) ++ BitVec.ofBool f.v ++ BitVec.ofBool f.dir ++ BitVec.ofBool f.ie ++
    BitVec.ofBool f.brk ++ BitVec.ofBool f.s ++ BitVec.ofBool f.z ++ (0 : BitVec 1) ++ BitVec.ofBool f.ac ++
    (0 : BitVec 1) ++ BitVec.ofBool f.p ++ (1 : BitVec 1) ++ BitVec.ofBool f.cy

/-- The flags that an image holds; the six fixed positions are ignored (R40, D13). -/
def Psw.ofImage (w : Word) : Psw :=
  { md := w.getLsbD 15, v := w.getLsbD 11, dir := w.getLsbD 10, ie := w.getLsbD 9, brk := w.getLsbD 8
    s := w.getLsbD 7, z := w.getLsbD 6, ac := w.getLsbD 4, p := w.getLsbD 2, cy := w.getLsbD 0 }

/-- The PSW loaded from an image by POP PSW or RETI: MD is 1 unless the write-enable latch is set (R54). -/
def State.loadPsw (s : State) (w : Word) : State :=
  { s with psw := { Psw.ofImage w with md := if s.mdWe then w.getLsbD 15 else true } }

/-! ## Interrupts -/

/-- The frame that every entry pushes: the PSW image, PS, PC (R750, R752). -/
def State.pushFrame (s : State) : State := ((s.push s.psw.image).push s.ps).push s.pc

/-- The offset word of a vector (R741, R98). -/
def State.vectorOffset (s : State) (n : Byte) : Word := s.readWord 0 (zext16 n * 4)

/-- The segment word of a vector (R741, R98). -/
def State.vectorSegment (s : State) (n : Byte) : Word := s.readWord 0 (zext16 n * 4 + 2)

/-- Control goes to the address in a vector, which is read in the state it is applied to (R752, R753). -/
def State.enterVector (s : State) (n : Byte) : State := s.jumpFar (s.vectorSegment n) (s.vectorOffset n)

/-- `raise Interrupt(n)` (R750): the frame, IE and BRK cleared, MD set, the vector. -/
def State.interrupt (s : State) (n : Byte) : State :=
  let t := s.pushFrame
  { t with psw := { t.psw with ie := false, brk := false, md := true } }.enterVector n

/-- The return from an interrupt (R674, R754): PC, PS and the PSW image are popped in this order. -/
def State.returnFromInterrupt (s : State) : State :=
  let off := s.popValue
  let s1 := s.popped
  let seg := s1.popValue
  let s2 := s1.popped
  let w := s2.popValue
  (s2.popped.loadPsw w).jumpFar seg off

/-! ## I/O space -/

/-- `IoRead8`: what the device answers, and the state after the access (R96, P2). -/
def State.ioRead8 (s : State) (port : Word) : Byte × State :=
  match s.ioIn with
  | [] => (Config.ioByte s.ioCtr port, { s with ioCtr := s.ioCtr + 1 })
  | b :: rest => (b, { s with ioIn := rest, ioCtr := s.ioCtr + 1 })

/-- `IoWrite8` (R96). -/
def State.ioWrite8 (s : State) (port : Word) (v : Byte) : State := { s with ioOut := (port, v) :: s.ioOut }

/-- `IoRead[W]`: low port first, the second port wraps (R96, D30, D31). -/
def State.ioRead (s : State) (w : Width) (port : Word) : BitVec w.bits × State :=
  match w with
  | .byte => s.ioRead8 port
  | .word =>
    let (lo, s1) := s.ioRead8 port
    let (hi, s2) := s1.ioRead8 (port + 1)
    (mkWord hi lo, s2)

/-- `IoWrite[W]`: low port first (R96, D30, D31). -/
def State.ioWrite (s : State) (w : Width) (port : Word) (v : BitVec w.bits) : State :=
  match w, v with
  | .byte, v => s.ioWrite8 port v
  | .word, v => (s.ioWrite8 port (loByte v)).ioWrite8 (port + 1) (hiByte v)

/-! ## Input pins and reset -/

/-- A sampling point: the pins take the next values that the platform drives, and a rising edge on NMI sets the latch
(R52, R745). -/
def State.sample (s : State) : State :=
  match s.inputs with
  | [] => s
  | i :: rest => { s with pins := i, nmiPending := s.nmiPending || i.nmiEdge, inputs := rest }

/-- The CPU reset of a machine that runs (R800): what the spec calls undefined is free. Memory, devices and what the
platform supplies are not touched. -/
def State.hardwareReset (s : State) : State :=
  let f := fun k => Config.freeValue (s.freeCtr + k)
  { s with
    aw := f 0, bw := f 1, cw := f 2, dw := f 3, sp := f 4, bp := f 5, ix := f 6, iy := f 7
    ps := 0xFFFF, ss := 0, ds0 := 0, ds1 := 0, pc := 0
    psw := { Psw.ofImage (f 8) with md := true, dir := false, ie := false, brk := false }
    mdWe := false, nmiPending := false, inhibitAll := false, inhibitInt := false, halted := false, haltLock := false
    suspended := false, pfx := Prefixes.none, queue := [], freeCtr := s.freeCtr + 9 }

/-- INT would be accepted where no NMI is pending: the level is high, IE is set and no inhibit window is open, neither
that of a segment register nor that of EI (R761). -/
def State.intAcceptable (s : State) : Bool := s.pins.intLevel && s.psw.ie && !s.inhibitAll && !s.inhibitInt

/-- NMI is taken: the latch is cleared, standby is left (R760, R785). -/
def State.takeNmi (s : State) : State := { s with nmiPending := false, halted := false }.interrupt 2

/-- INT is taken with the byte of the acknowledge cycle, used as given (R761, R762, D54). -/
def State.takeInt (s : State) : State := { s with halted := false }.interrupt s.pins.intVector

/-- The single-step break is taken (R770). -/
def State.takeSingleStep (s : State) : State := { s with halted := false }.interrupt 1

/-! ## Prefixes and pins that the state drives -/

/-- The segment of an operand that an override may change (R143, R144). -/
def State.overridden (s : State) (default : Sreg) : Word := s.getSreg (s.pfx.seg.getD default)

/-- The output pin PS2 during a bus cycle: IE (R43, R99). -/
def State.pinPS2 (s : State) : Bool := s.psw.ie

/-- The output pin PS3 during a bus cycle: low in the native mode, high in the emulation mode (R41, R99). -/
def State.pinPS3 (s : State) : Bool := !s.psw.md

/-- The bus is locked for the instruction that is being read, so no hold request is granted (R108, R694). -/
def State.busLocked (s : State) : Bool := s.pfx.lock

/-- The BUSLOCK signal is driven: an output in the large-scale mode only (R108). In standby it is active where BUSLOCK
was decoded before HALT (R784). -/
def State.pinBuslockActive (s : State) : Bool :=
  match Config.systemMode with
  | .large => if s.halted then s.haltLock else s.busLocked
  | .small => false

/-- The level of a control output in standby, true for high (Table 9-1, R784): none where the table fixes no level of
its own, and where the system mode has no such output. -/
def State.standbyLevel (s : State) (pin : ControlPin) : Option Bool :=
  match pin, Config.systemMode with
  | .qs1, .large | .qs0, .large => some false
  | .bs2, .large | .bs1, .large | .bs0, .large => some true
  | .buslock, .large => some !s.haltLock
  | .intak, .small | .bufen, .small | .wr, .small | .rd, .small => some true
  | .astb, .small => some false
  | .ube, _ => some true
  | _, _ => none

end Sys2Proof.Machine
end

