-- ==== Sys2Proof/Machine/Flags.lean ====
section
/-! DEFINITION. The flag functions of spec 00_scope.md R16 to R18, and the one operation by which an instruction
changes its flags. -/

namespace Sys2Proof.Machine

/-- What the flag table of an instruction says of one flag (R16). -/
inductive FlagChange
  /-- blank: no change. -/
  | keep
  /-- `0`, `1` or `X`: this value. -/
  | put (b : Bool)
  /-- `U`: a free value (U2, D8). -/
  | undef
deriving DecidableEq, Repr

/-- A line of the flag table, `V S Z AC P CY`. -/
structure FlagEffect where
  v : FlagChange
  s : FlagChange
  z : FlagChange
  ac : FlagChange
  p : FlagChange
  cy : FlagChange
deriving DecidableEq, Repr

/-- The flag after the instruction, from the flag before and a free bit. -/
def FlagChange.resolve : FlagChange → Bool → Bool → Bool
  | .keep, old, _ => old
  | .put b, _, _ => b
  | .undef, _, free => free

/-- The instruction leaves a flag undefined. -/
def FlagEffect.draws (e : FlagEffect) : Bool :=
  e.v == .undef || e.s == .undef || e.z == .undef || e.ac == .undef || e.p == .undef || e.cy == .undef

/-- The flags after an instruction. The free bit of a flag is the bit of the free word at the flag's place in the PSW
image. -/
def FlagEffect.apply (e : FlagEffect) (f : Psw) (free : Word) : Psw :=
  { f with
    v := e.v.resolve f.v (free.getLsbD 11)
    s := e.s.resolve f.s (free.getLsbD 7)
    z := e.z.resolve f.z (free.getLsbD 6)
    ac := e.ac.resolve f.ac (free.getLsbD 4)
    p := e.p.resolve f.p (free.getLsbD 2)
    cy := e.cy.resolve f.cy (free.getLsbD 0) }

/-- The flags of the state changed. One free value is used if a flag is left undefined. -/
def State.flags (s : State) (e : FlagEffect) : State :=
  { s with psw := e.apply s.psw s.free, freeCtr := if e.draws then s.freeCtr + 1 else s.freeCtr }

/-- All six status flags undefined. -/
def allUndefined : FlagEffect := ⟨.undef, .undef, .undef, .undef, .undef, .undef⟩

/-! ## The functions of R17 -/

/-- `S(r)`. -/
def flagS {n : Nat} (r : BitVec n) : Bool := r.msb

/-- `Z(r)`. -/
def flagZ {n : Nat} (r : BitVec n) : Bool := r == 0

/-- `P(r)`: even parity of the low eight bits. -/
def flagP {n : Nat} (r : BitVec n) : Bool :=
  !(r.getLsbD 0 ^^ r.getLsbD 1 ^^ r.getLsbD 2 ^^ r.getLsbD 3 ^^ r.getLsbD 4 ^^ r.getLsbD 5 ^^ r.getLsbD 6 ^^
    r.getLsbD 7)

/-- A carry as a word of the operation's width. -/
def carryIn {n : Nat} (c : Bool) : BitVec n := if c then 1 else 0

/-- `CY` of `a + b + c`. -/
def cyAdd {n : Nat} (a b : BitVec n) (c : Bool) : Bool := decide (2 ^ n ≤ a.toNat + b.toNat + c.toNat)

/-- `CY` of `a - b - c`. -/
def cySub {n : Nat} (a b : BitVec n) (c : Bool) : Bool := decide (a.toNat < b.toNat + c.toNat)

/-- `AC` of `a + b + c`. -/
def acAdd {n : Nat} (a b : BitVec n) (c : Bool) : Bool := decide (16 ≤ a.toNat % 16 + b.toNat % 16 + c.toNat)

/-- `AC` of `a - b - c`. -/
def acSub {n : Nat} (a b : BitVec n) (c : Bool) : Bool := decide (a.toNat % 16 < b.toNat % 16 + c.toNat)

/-- `V` of `r = a + b + c`. -/
def vAdd {n : Nat} (a b r : BitVec n) : Bool := (a.msb == b.msb) && (r.msb != a.msb)

/-- `V` of `r = a - b - c`. -/
def vSub {n : Nat} (a b r : BitVec n) : Bool := (a.msb != b.msb) && (r.msb != a.msb)

/-! ## The helpers of R18 -/

/-- The sum of `AddFlags`. -/
def addResult {n : Nat} (a b : BitVec n) (c : Bool) : BitVec n := a + b + carryIn c

/-- The difference of `SubFlags`. -/
def subResult {n : Nat} (a b : BitVec n) (c : Bool) : BitVec n := a - b - carryIn c

/-- The flags of `AddFlags`. -/
def addFlags {n : Nat} (a b : BitVec n) (c : Bool) : FlagEffect :=
  let r := addResult a b c
  ⟨.put (vAdd a b r), .put (flagS r), .put (flagZ r), .put (acAdd a b c), .put (flagP r), .put (cyAdd a b c)⟩

/-- The flags of `SubFlags`. -/
def subFlags {n : Nat} (a b : BitVec n) (c : Bool) : FlagEffect :=
  let r := subResult a b c
  ⟨.put (vSub a b r), .put (flagS r), .put (flagZ r), .put (acSub a b c), .put (flagP r), .put (cySub a b c)⟩

/-- `LogicFlags`: V and CY cleared, AC undefined. -/
def logicFlags {n : Nat} (r : BitVec n) : FlagEffect :=
  ⟨.put false, .put (flagS r), .put (flagZ r), .undef, .put (flagP r), .put false⟩

/-! ## The eight operations of `ooo` (R152 (a)) -/

/-- The result of an operation; that of CMP is not stored. -/
def aluResult {n : Nat} (op : AluOp) (cy : Bool) (a b : BitVec n) : BitVec n :=
  match op with
  | .add => addResult a b false
  | .or => a ||| b
  | .addc => addResult a b cy
  | .subc => subResult a b cy
  | .and => a &&& b
  | .sub | .cmp => subResult a b false
  | .xor => a ^^^ b

/-- The flags of an operation. -/
def aluEffect {n : Nat} (op : AluOp) (cy : Bool) (a b : BitVec n) : FlagEffect :=
  match op with
  | .add => addFlags a b false
  | .or => logicFlags (a ||| b)
  | .addc => addFlags a b cy
  | .subc => subFlags a b cy
  | .and => logicFlags (a &&& b)
  | .sub | .cmp => subFlags a b false
  | .xor => logicFlags (a ^^^ b)

end Sys2Proof.Machine
end

