-- ==== Sys2Proof/Machine/Operands.lean ====
section
/-! DEFINITION. The operand forms: effective address and segment of a memory operand, immediates (R136 to R147). -/

namespace Sys2Proof.Machine

/-- The register sum of a row of Table 12-5, modulo 2^16 (R140, R141). -/
def State.baseSum (s : State) : AddrForm → Word
  | .bw_ix => s.bw + s.ix
  | .bw_iy => s.bw + s.iy
  | .bp_ix => s.bp + s.ix
  | .bp_iy => s.bp + s.iy
  | .ix => s.ix
  | .iy => s.iy
  | .bp => s.bp
  | .bw => s.bw

/-- `EA` (R140, R141). -/
def State.ea (s : State) : Mem → Word
  | .ind f => s.baseSum f
  | .disp8 f disp => s.baseSum f + sext16 disp
  | .disp16 f disp => s.baseSum f + disp
  | .direct addr => addr

/-- The segment of a row of Table 12-5: SS where BP is part of it, else DS0 (R142). -/
def formSeg : AddrForm → Sreg
  | .bp_ix | .bp_iy | .bp => .ss
  | .bw_ix | .bw_iy | .ix | .iy | .bw => .ds0

/-- The default segment of a memory operand (R142). -/
def memSeg : Mem → Sreg
  | .ind f | .disp8 f _ | .disp16 f _ => formSeg f
  | .direct _ => .ds0

/-- `seg(EA)` (R144). -/
def State.segOf (s : State) (m : Mem) : Word := s.overridden (memSeg m)

/-- A memory operand read (R145). -/
def State.readOperand (s : State) (w : Width) (m : Mem) : BitVec w.bits := s.readMem w (s.segOf m) (s.ea m)

/-- A memory operand written; address and segment are those of the state `s` (R145, R139: operands are those at the
start of the instruction). -/
def State.writeOperand (s : State) (w : Width) (m : Mem) (v : BitVec w.bits) : State :=
  s.writeMem w (s.segOf m) (s.ea m) v

/-- The first word of a `mem32` operand (R88). -/
def State.readLow (s : State) (m : Mem) : Word := s.readWord (s.segOf m) (s.ea m)

/-- The second word of a `mem32` operand, at EA + 2 modulo 2^16 (R88). -/
def State.readHigh (s : State) (m : Mem) : Word := s.readWord (s.segOf m) (s.ea m + 2)

/-- An immediate at the width of its operation (R136). -/
def immValue (w : Width) (imm : Word) : BitVec w.bits := imm.setWidth w.bits

/-- The immediate of `100000sW`: sign-extended to a word for sW = 11 (R301). -/
def swValue (sw : SW) (imm : Word) : BitVec sw.width.bits :=
  match sw with
  | .b80 | .b82 => loByte imm
  | .w81 => imm
  | .w83 => sext16 (loByte imm)

/-- The immediate of 82H (byte) and 83H (sign-extended) of the logical operations (R432, D41). -/
def immSext (w : Width) (i : Byte) : BitVec w.bits := i.signExtend w.bits

end Sys2Proof.Machine
end

