-- ==== Sys2Proof/Machine/AddSub.lean ====
section
/-! DEFINITION. ADD, ADDC, SUB and SUBC (spec 42_add_sub_bcd.md, R300 to R327). Every form is one line over the three
shared operations below. -/

namespace Sys2Proof.Machine

/-- An operation with a register destination and its flags (R300; the logical operations R431). CY is read before it
is written. -/
def State.aluReg (s : State) (op : AluOp) (w : Width) (d : Reg) (b : BitVec w.bits) : State :=
  (s.setReg w d (aluResult op s.psw.cy (s.getReg w d) b)).flags (aluEffect op s.psw.cy (s.getReg w d) b)

/-- An operation with a memory destination: read once, written once at the same address (R303). -/
def State.aluMem (s : State) (op : AluOp) (w : Width) (m : Mem) (b : BitVec w.bits) : State :=
  (s.writeOperand w m (aluResult op s.psw.cy (s.readOperand w m) b)).flags (aluEffect op s.psw.cy (s.readOperand w m) b)

/-- R304. -/
def execAddRegReg (w : Width) (d r : Reg) (s : State) : Result := .next (s.aluReg .add w d (s.getReg w r))

/-- R304, the d = 0 encoding (R302, R145). -/
def execAddRegRegAlt (w : Width) (d r : Reg) (s : State) : Result := .next (s.aluReg .add w d (s.getReg w r))

/-- R305. -/
def execAddMemReg (w : Width) (m : Mem) (r : Reg) (s : State) : Result := .next (s.aluMem .add w m (s.getReg w r))

/-- R306. -/
def execAddRegMem (w : Width) (r : Reg) (m : Mem) (s : State) : Result := .next (s.aluReg .add w r (s.readOperand w m))

/-- R307. -/
def execAddRegImm (sw : SW) (r : Reg) (imm : Word) (s : State) : Result :=
  .next (s.aluReg .add sw.width r (swValue sw imm))

/-- R308. -/
def execAddMemImm (sw : SW) (m : Mem) (imm : Word) (s : State) : Result :=
  .next (s.aluMem .add sw.width m (swValue sw imm))

/-- R309. -/
def execAddAccImm (w : Width) (imm : Word) (s : State) : Result := .next (s.aluReg .add w .al_aw (immValue w imm))

/-- R310. -/
def execAddcRegReg (w : Width) (d r : Reg) (s : State) : Result := .next (s.aluReg .addc w d (s.getReg w r))

/-- R310, the d = 0 encoding (R302, R145). -/
def execAddcRegRegAlt (w : Width) (d r : Reg) (s : State) : Result := .next (s.aluReg .addc w d (s.getReg w r))

/-- R311. -/
def execAddcMemReg (w : Width) (m : Mem) (r : Reg) (s : State) : Result := .next (s.aluMem .addc w m (s.getReg w r))

/-- R312. -/
def execAddcRegMem (w : Width) (r : Reg) (m : Mem) (s : State) : Result := .next (s.aluReg .addc w r (s.readOperand w m))

/-- R313. -/
def execAddcRegImm (sw : SW) (r : Reg) (imm : Word) (s : State) : Result :=
  .next (s.aluReg .addc sw.width r (swValue sw imm))

/-- R314. -/
def execAddcMemImm (sw : SW) (m : Mem) (imm : Word) (s : State) : Result :=
  .next (s.aluMem .addc sw.width m (swValue sw imm))

/-- R315. -/
def execAddcAccImm (w : Width) (imm : Word) (s : State) : Result := .next (s.aluReg .addc w .al_aw (immValue w imm))

/-- R316. -/
def execSubRegReg (w : Width) (d r : Reg) (s : State) : Result := .next (s.aluReg .sub w d (s.getReg w r))

/-- R316, the d = 0 encoding (R302, R145). -/
def execSubRegRegAlt (w : Width) (d r : Reg) (s : State) : Result := .next (s.aluReg .sub w d (s.getReg w r))

/-- R317. -/
def execSubMemReg (w : Width) (m : Mem) (r : Reg) (s : State) : Result := .next (s.aluMem .sub w m (s.getReg w r))

/-- R318. -/
def execSubRegMem (w : Width) (r : Reg) (m : Mem) (s : State) : Result := .next (s.aluReg .sub w r (s.readOperand w m))

/-- R319. -/
def execSubRegImm (sw : SW) (r : Reg) (imm : Word) (s : State) : Result :=
  .next (s.aluReg .sub sw.width r (swValue sw imm))

/-- R320. -/
def execSubMemImm (sw : SW) (m : Mem) (imm : Word) (s : State) : Result :=
  .next (s.aluMem .sub sw.width m (swValue sw imm))

/-- R321. -/
def execSubAccImm (w : Width) (imm : Word) (s : State) : Result := .next (s.aluReg .sub w .al_aw (immValue w imm))

/-- R322. -/
def execSubcRegReg (w : Width) (d r : Reg) (s : State) : Result := .next (s.aluReg .subc w d (s.getReg w r))

/-- R322, the d = 0 encoding (R302, R145). -/
def execSubcRegRegAlt (w : Width) (d r : Reg) (s : State) : Result := .next (s.aluReg .subc w d (s.getReg w r))

/-- R323. -/
def execSubcMemReg (w : Width) (m : Mem) (r : Reg) (s : State) : Result := .next (s.aluMem .subc w m (s.getReg w r))

/-- R324. -/
def execSubcRegMem (w : Width) (r : Reg) (m : Mem) (s : State) : Result := .next (s.aluReg .subc w r (s.readOperand w m))

/-- R325. -/
def execSubcRegImm (sw : SW) (r : Reg) (imm : Word) (s : State) : Result :=
  .next (s.aluReg .subc sw.width r (swValue sw imm))

/-- R326. -/
def execSubcMemImm (sw : SW) (m : Mem) (imm : Word) (s : State) : Result :=
  .next (s.aluMem .subc sw.width m (swValue sw imm))

/-- R327. -/
def execSubcAccImm (w : Width) (imm : Word) (s : State) : Result := .next (s.aluReg .subc w .al_aw (immValue w imm))

end Sys2Proof.Machine
end

