-- ==== Sys2Proof/Machine/Bcd.lean ====
section
/-! DEFINITION. The packed BCD strings and the nibble rotations (spec 42_add_sub_bcd.md, R330 to R344). -/

namespace Sys2Proof.Machine

/-! ## One byte of a packed BCD string -/

/-- The low digit of a byte (R330). -/
def loDigit (b : Byte) : Nat := b.toNat % 16

/-- The high digit of a byte (R330). -/
def hiDigit (b : Byte) : Nat := b.toNat / 16

/-- One digit of the sum or difference, and the carry or borrow out of it (R331). -/
def bcdDigit (sub : Bool) (a b c : Nat) : Nat × Nat :=
  if sub then
    if a < b + c then (a + 10 - (b + c), 1) else (a - (b + c), 0)
  else
    if 9 < a + b + c then (a + b + c - 10, 1) else (a + b + c, 0)

/-- Two digits: the byte of the result and the carry out of its high digit (R331). -/
def bcdByte (sub : Bool) (a b : Byte) (c : Nat) : Byte × Nat :=
  let lo := bcdDigit sub (loDigit a) (loDigit b) c
  let hi := bcdDigit sub (hiDigit a) (hiDigit b) lo.2
  (BitVec.ofNat 8 (hi.1 * 16 + lo.1), hi.2)

/-- Both nibbles are decimal digits. -/
def isBcdByte (b : Byte) : Bool := decide (loDigit b ≤ 9) && decide (hiDigit b ≤ 9)

/-! ## The string loop (R331) -/

/-- What the loop carries: the state, the carry and whether every result digit so far is 0. -/
structure BcdRun where
  state : State
  carry : Nat
  zero : Bool
deriving DecidableEq, Repr

/-- The byte `i` of the destination string, at DS1:IY, never overridden. -/
def State.bcdDest (s : State) (i : Word) : Byte := s.readByte s.ds1 (s.iy + i)

/-- The byte `i` of the source string, at DS0:IX or the override segment. -/
def State.bcdSource (s : State) (i : Word) : Byte := s.readByte (s.overridden .ds0) (s.ix + i)

/-- The bytes of the strings from the `i`-th on, lowest digits first (R331). -/
def bcdLoop (sub store : Bool) : Nat → Word → BcdRun → BcdRun
  | 0, _, r => r
  | n + 1, i, r =>
    let x := bcdByte sub (r.state.bcdDest i) (r.state.bcdSource i) r.carry
    let t := if store then r.state.writeByte r.state.ds1 (r.state.iy + i) x.1 else r.state
    bcdLoop sub store n (i + 1) { state := t, carry := x.2, zero := r.zero && x.1 == 0 }

/-- How many bytes the strings have (R331). -/
def State.bcdBytes (s : State) : Nat := (s.cl.toNat + 1) / 2

/-- The envelope of R331: 1 to 254 digits, each of them 0 to 9 (D38). -/
def State.bcdInEnvelope (s : State) : Bool :=
  decide (1 ≤ s.cl.toNat) && decide (s.cl.toNat ≤ 254) &&
    (List.range s.bcdBytes).all fun k =>
      isBcdByte (s.bcdDest (BitVec.ofNat 16 k)) && isBcdByte (s.bcdSource (BitVec.ofNat 16 k))

/-- With an odd number of digits the upper nibble of the highest byte stored is free (U4). -/
def State.freeTopNibble (s : State) : State :=
  let off := s.iy + BitVec.ofNat 16 (s.bcdBytes - 1)
  (s.writeByte s.ds1 off (((loByte s.free).extractLsb' 4 4) ++ ((s.readByte s.ds1 off).extractLsb' 0 4))).drawn

/-- Outside the envelope every byte of the destination string is free (D38, U11). -/
def freeString : Nat → Word → State → State
  | 0, _, s => s
  | n + 1, i, s => freeString n (i + 1) (s.writeByte s.ds1 (s.iy + i) (loByte s.free)).drawn

/-- V, S, AC and P undefined, Z and CY as computed (R331). -/
def bcdFlags (z cy : Bool) : FlagEffect := ⟨.undef, .undef, .put z, .undef, .undef, .put cy⟩

/-- ADD4S, SUB4S (with `store`) and CMP4S (without). -/
def State.bcdString (s : State) (sub store : Bool) : State :=
  if s.bcdInEnvelope then
    let r := bcdLoop sub store s.bcdBytes 0 { state := s, carry := 0, zero := true }
    let t := if store && s.cl.getLsbD 0 then r.state.freeTopNibble else r.state
    t.flags (bcdFlags r.zero (r.carry == 1))
  else
    (if store then freeString s.bcdBytes 0 s else s).flags allUndefined

/-- R332. -/
def execAdd4s (s : State) : Result := .next (s.bcdString false true)

/-- R333. -/
def execSub4s (s : State) : Result := .next (s.bcdString true true)

/-- R334. -/
def execCmp4s (s : State) : Result := .next (s.bcdString true false)

/-! ## Nibble rotations (R340) -/

/-- The upper nibble of a byte. -/
def hiNibble (b : Byte) : BitVec 4 := b.extractLsb' 4 4

/-- The lower nibble of a byte. -/
def loNibble (b : Byte) : BitVec 4 := b.extractLsb' 0 4

/-- The operand after ROL4. -/
def rol4Operand (t al : Byte) : Byte := loNibble t ++ loNibble al

/-- The operand after ROR4. -/
def ror4Operand (t al : Byte) : Byte := loNibble al ++ hiNibble t

/-- AL after a nibble rotation: a free upper nibble (U9) and the digit that leaves the operand. -/
def State.setAlDigit (s : State) (digit : BitVec 4) : State := (s.setAl (hiNibble (loByte s.free) ++ digit)).drawn

/-- A rotation of a register; with AL as the operand AL is free (D39, U5). -/
def State.rotateDigitReg (s : State) (r : Reg) (operand : Byte) (digit : BitVec 4) : State :=
  if r = .al_aw then (s.setAl (loByte s.free)).drawn else (s.setReg8 r operand).setAlDigit digit

/-- R341. -/
def execRol4Reg8 (r : Reg) (s : State) : Result :=
  .next (s.rotateDigitReg r (rol4Operand (s.getReg8 r) s.al) (hiNibble (s.getReg8 r)))

/-- R342. -/
def execRol4Mem8 (m : Mem) (s : State) : Result :=
  .next
    ((s.writeOperand .byte m (rol4Operand (s.readOperand .byte m) s.al)).setAlDigit
      (hiNibble (s.readOperand .byte m)))

/-- R343. -/
def execRor4Reg8 (r : Reg) (s : State) : Result :=
  .next (s.rotateDigitReg r (ror4Operand (s.getReg8 r) s.al) (loNibble (s.getReg8 r)))

/-- R344. -/
def execRor4Mem8 (m : Mem) (s : State) : Result :=
  .next
    ((s.writeOperand .byte m (ror4Operand (s.readOperand .byte m) s.al)).setAlDigit
      (loNibble (s.readOperand .byte m)))

end Sys2Proof.Machine
end

