-- ==== Sys2Proof/Machine/Bit.lean ====
section
/-! DEFINITION. TEST1, NOT1, CLR1 and SET1 (spec 45_bit_manipulation.md). -/

namespace Sys2Proof.Machine

/-- The bit that a bit number selects: only its low three bits count for a byte, its low four for a word (R470). -/
def bitIndex (w : Width) (number : Byte) : Nat := number.toNat % w.bits

/-- The word `1 << b`. -/
def bitMask {n : Nat} (b : Nat) : BitVec n := 1 <<< b

/-- The operand after NOT1, CLR1 or SET1; TEST1 leaves it (R473 to R509). -/
def bitResult {n : Nat} (op : BitOp) (a : BitVec n) (b : Nat) : BitVec n :=
  match op with
  | .test1 => a
  | .clr1 => a &&& ~~~bitMask b
  | .set1 => a ||| bitMask b
  | .not1 => a ^^^ bitMask b

/-- The flags of TEST1: Z is the complement of the bit, V and CY are cleared, S, AC and P undefined (R473). -/
def test1Flags (bit : Bool) : FlagEffect := ⟨.put false, .undef, .put (!bit), .undef, .undef, .put false⟩

/-- TEST1 of a value. -/
def State.test1 (s : State) (w : Width) (a : BitVec w.bits) (number : Byte) : State :=
  s.flags (test1Flags (a.getLsbD (bitIndex w number)))

/-- NOT1, CLR1 and SET1 of a register: no flag changes. -/
def State.bitReg (s : State) (op : BitOp) (w : Width) (r : Reg) (number : Byte) : State :=
  s.setReg w r (bitResult op (s.getReg w r) (bitIndex w number))

/-- NOT1, CLR1 and SET1 of a memory operand, which is read and written whole (R472). -/
def State.bitMem (s : State) (op : BitOp) (w : Width) (m : Mem) (number : Byte) : State :=
  s.writeOperand w m (bitResult op (s.readOperand w m) (bitIndex w number))

/-- R473. -/
def execTest1Reg8Cl (r : Reg) (s : State) : Result := .next (s.test1 .byte (s.getReg8 r) s.cl)

/-- R474. -/
def execTest1Mem8Cl (m : Mem) (s : State) : Result := .next (s.test1 .byte (s.readOperand .byte m) s.cl)

/-- R475. -/
def execTest1Reg16Cl (r : Reg) (s : State) : Result := .next (s.test1 .word (s.getReg16 r) s.cl)

/-- R476. -/
def execTest1Mem16Cl (m : Mem) (s : State) : Result := .next (s.test1 .word (s.readOperand .word m) s.cl)

/-- R477. -/
def execTest1Reg8Imm (r : Reg) (i : Byte) (s : State) : Result := .next (s.test1 .byte (s.getReg8 r) i)

/-- R478. -/
def execTest1Mem8Imm (m : Mem) (i : Byte) (s : State) : Result := .next (s.test1 .byte (s.readOperand .byte m) i)

/-- R479. -/
def execTest1Reg16Imm (r : Reg) (i : Byte) (s : State) : Result := .next (s.test1 .word (s.getReg16 r) i)

/-- R480. -/
def execTest1Mem16Imm (m : Mem) (i : Byte) (s : State) : Result := .next (s.test1 .word (s.readOperand .word m) i)

/-- R481. -/
def execNot1Reg8Cl (r : Reg) (s : State) : Result := .next (s.bitReg .not1 .byte r s.cl)

/-- R482. -/
def execNot1Mem8Cl (m : Mem) (s : State) : Result := .next (s.bitMem .not1 .byte m s.cl)

/-- R483. -/
def execNot1Reg16Cl (r : Reg) (s : State) : Result := .next (s.bitReg .not1 .word r s.cl)

/-- R484. -/
def execNot1Mem16Cl (m : Mem) (s : State) : Result := .next (s.bitMem .not1 .word m s.cl)

/-- R485. -/
def execNot1Reg8Imm (r : Reg) (i : Byte) (s : State) : Result := .next (s.bitReg .not1 .byte r i)

/-- R486. -/
def execNot1Mem8Imm (m : Mem) (i : Byte) (s : State) : Result := .next (s.bitMem .not1 .byte m i)

/-- R487. -/
def execNot1Reg16Imm (r : Reg) (i : Byte) (s : State) : Result := .next (s.bitReg .not1 .word r i)

/-- R488. -/
def execNot1Mem16Imm (m : Mem) (i : Byte) (s : State) : Result := .next (s.bitMem .not1 .word m i)

/-- R490. -/
def execClr1Reg8Cl (r : Reg) (s : State) : Result := .next (s.bitReg .clr1 .byte r s.cl)

/-- R491. -/
def execClr1Mem8Cl (m : Mem) (s : State) : Result := .next (s.bitMem .clr1 .byte m s.cl)

/-- R492. -/
def execClr1Reg16Cl (r : Reg) (s : State) : Result := .next (s.bitReg .clr1 .word r s.cl)

/-- R493. -/
def execClr1Mem16Cl (m : Mem) (s : State) : Result := .next (s.bitMem .clr1 .word m s.cl)

/-- R494. -/
def execClr1Reg8Imm (r : Reg) (i : Byte) (s : State) : Result := .next (s.bitReg .clr1 .byte r i)

/-- R495. -/
def execClr1Mem8Imm (m : Mem) (i : Byte) (s : State) : Result := .next (s.bitMem .clr1 .byte m i)

/-- R496. -/
def execClr1Reg16Imm (r : Reg) (i : Byte) (s : State) : Result := .next (s.bitReg .clr1 .word r i)

/-- R497. -/
def execClr1Mem16Imm (m : Mem) (i : Byte) (s : State) : Result := .next (s.bitMem .clr1 .word m i)

/-- R500. -/
def execSet1Reg8Cl (r : Reg) (s : State) : Result := .next (s.bitReg .set1 .byte r s.cl)

/-- R501. -/
def execSet1Mem8Cl (m : Mem) (s : State) : Result := .next (s.bitMem .set1 .byte m s.cl)

/-- R502. -/
def execSet1Reg16Cl (r : Reg) (s : State) : Result := .next (s.bitReg .set1 .word r s.cl)

/-- R503. -/
def execSet1Mem16Cl (m : Mem) (s : State) : Result := .next (s.bitMem .set1 .word m s.cl)

/-- R504. -/
def execSet1Reg8Imm (r : Reg) (i : Byte) (s : State) : Result := .next (s.bitReg .set1 .byte r i)

/-- R505. -/
def execSet1Mem8Imm (m : Mem) (i : Byte) (s : State) : Result := .next (s.bitMem .set1 .byte m i)

/-- R506. -/
def execSet1Reg16Imm (r : Reg) (i : Byte) (s : State) : Result := .next (s.bitReg .set1 .word r i)

/-- R507. -/
def execSet1Mem16Imm (m : Mem) (i : Byte) (s : State) : Result := .next (s.bitMem .set1 .word m i)

/-- CY as given, the other five flags undefined (R489, U7). -/
def carryFlags (cy : Bool) : FlagEffect := ⟨.undef, .undef, .undef, .undef, .undef, .put cy⟩

/-- R489. -/
def execNot1Cy (s : State) : Result := .next (s.flags (carryFlags (!s.psw.cy)))

/-- R498. -/
def execClr1Cy (s : State) : Result := .next (s.flags (carryFlags false))

/-- R508. -/
def execSet1Cy (s : State) : Result := .next (s.flags (carryFlags true))

/-- R499. -/
def execClr1Dir (s : State) : Result := .next { s with psw := { s.psw with dir := false } }

/-- R509. -/
def execSet1Dir (s : State) : Result := .next { s with psw := { s.psw with dir := true } }

end Sys2Proof.Machine
end

