-- ==== Sys2Proof/Machine/Block.lean ====
section
/-! DEFINITION. Repeat prefixes and block instructions, bit field instructions, input and output (spec
41_repeat_block_bitfield_io.md). -/

namespace Sys2Proof.Machine

/-! ## The repeat loop (R240 to R247) -/

/-- The change of a pointer by one element: up for DIR = 0, down for DIR = 1, by the size of the element (R248). -/
def State.blockStep (s : State) (w : Width) : Word :=
  let d := BitVec.ofNat 16 w.bytes
  if s.psw.dir then -d else d

/-- The test after an element: the loop of this repeat prefix ends. Only CMPBK and CMPM look at a flag; REPNE before
the others repeats by count alone (R241, R246). -/
def repStops (r : Rep) (compares : Bool) (f : Psw) : Bool :=
  if compares then
    match r with
    | .repc => !f.cy
    | .repnc => f.cy
    | .rep => !f.z
    | .repne => f.z
  else false

/-- `CW <- CW - 1`, which changes no flag (R241). -/
def State.decCw (s : State) : State := { s with cw := s.cw - 1 }

/-- Between two elements something asks for the end of the step: reset, NMI, or an INT that would be accepted, which it
is not in a window left by the instruction before (R760, R761, R768, R801). -/
def State.interrupted (s : State) : Bool := s.pins.reset || s.nmiPending || s.intAcceptable

/-- The loop is left between two elements. The saved PC is that of the opcode byte less at most three prefixes
(R768). -/
def State.suspend (s : State) : State :=
  { s with pc := s.pc - 1 - BitVec.ofNat 16 (min s.pfx.count 3), queue := [], suspended := true }

/-- The loop of R241 for a count that is not zero; `n` is the count. Between two elements, and only there, the pins are
sampled (R247, R768). -/
def blockLoop (elem : State → State) (r : Rep) (compares : Bool) : Nat → State → State
  | 0, s => s
  | n + 1, s =>
    let t := (elem s).decCw
    if n = 0 || repStops r compares t.psw then t
    else
      let u := t.prefetch.sample
      if u.interrupted then u.suspend else blockLoop elem r compares n u

/-- A block instruction: one element, or under a repeat prefix the loop counted by CW (R240, R241). -/
def State.block (s : State) (elem : State → State) (compares : Bool) : State :=
  match s.pfx.rep with
  | none => elem s
  | some r => blockLoop elem r compares s.cw.toNat s

/-! ## One element of each block instruction -/

/-- R249. -/
def movbkElem (w : Width) (s : State) : State :=
  { s.writeMem w s.ds1 s.iy (s.readMem w (s.overridden .ds0) s.ix) with
    ix := s.ix + s.blockStep w
    iy := s.iy + s.blockStep w }

/-- R250: the source element is the minuend. -/
def cmpbkElem (w : Width) (s : State) : State :=
  { s.flags (subFlags (s.readMem w (s.overridden .ds0) s.ix) (s.readMem w s.ds1 s.iy) false) with
    ix := s.ix + s.blockStep w
    iy := s.iy + s.blockStep w }

/-- R251. -/
def cmpmElem (w : Width) (s : State) : State :=
  { s.flags (subFlags (s.getReg w .al_aw) (s.readMem w s.ds1 s.iy) false) with iy := s.iy + s.blockStep w }

/-- R252. -/
def ldmElem (w : Width) (s : State) : State :=
  { s.setReg w .al_aw (s.readMem w (s.overridden .ds0) s.ix) with ix := s.ix + s.blockStep w }

/-- R253. -/
def stmElem (w : Width) (s : State) : State :=
  { s.writeMem w s.ds1 s.iy (s.getReg w .al_aw) with iy := s.iy + s.blockStep w }

/-- R264: the destination takes no override. -/
def inmElem (w : Width) (s : State) : State :=
  let (v, t) := s.ioRead w s.dw
  { t.writeMem w s.ds1 s.iy v with iy := s.iy + s.blockStep w }

/-- R265. -/
def outmElem (w : Width) (s : State) : State :=
  { s.ioWrite w s.dw (s.readMem w (s.overridden .ds0) s.ix) with ix := s.ix + s.blockStep w }

/-- R249. -/
def execMovbk (w : Width) (s : State) : Result := .next (s.block (movbkElem w) false)

/-- R250. -/
def execCmpbk (w : Width) (s : State) : Result := .next (s.block (cmpbkElem w) true)

/-- R251. -/
def execCmpm (w : Width) (s : State) : Result := .next (s.block (cmpmElem w) true)

/-- R252. -/
def execLdm (w : Width) (s : State) : Result := .next (s.block (ldmElem w) false)

/-- R253. -/
def execStm (w : Width) (s : State) : Result := .next (s.block (stmElem w) false)

/-- R264. -/
def execInm (w : Width) (s : State) : Result := .next (s.block (inmElem w) false)

/-- R265. -/
def execOutm (w : Width) (s : State) : Result := .next (s.block (outmElem w) false)

/-! ## Bit fields (R254, R255) -/

/-- The bits of a field of `len` bits at bit 0 of 32. -/
def fieldMask (len : Nat) : BitVec 32 := (1 <<< len) - 1

/-- `D` with the low `len` bits of a word inserted at bit `off` (R256). -/
def insertField (d : BitVec 32) (v : Word) (off len : Nat) : BitVec 32 :=
  (d &&& ~~~(fieldMask len <<< off)) ||| ((v.setWidth 32 &&& fieldMask len) <<< off)

/-- The field of `len` bits at bit `off` of `D`, zero-extended (R258). -/
def extractField (d : BitVec 32) (off len : Nat) : Word := ((d >>> off) &&& fieldMask len).setWidth 16

/-- The two words `word1 : word0` at an offset of a segment (R254). -/
def State.fieldWords (s : State) (seg off : Word) : BitVec 32 := s.readWord seg (off + 2) ++ s.readWord seg off

/-- The byte offset after a field: 2 more if the field reaches the end of the word (R254). -/
def nextFieldOffset (base : Word) (off len : Nat) : Word := if 16 ≤ off + len then base + 2 else base

/-- The offset and length operands lie in the envelope of R255. -/
def fieldOperandsOk (off lenm1 : Byte) : Bool := decide (off.toNat < 16) && decide (lenm1.toNat < 16)

/-- INS (R256, R257). Outside the envelope everything that it can write is free: the register, IY, the two words at
DS1:IY and the flags (D20, U10). -/
def State.insertBits (s : State) (r1 : Reg) (lenm1 : Byte) : State :=
  let off := (s.getReg8 r1).toNat
  let len := lenm1.toNat + 1
  if fieldOperandsOk (s.getReg8 r1) lenm1 then
    if off + len ≤ 16 then
      let d := insertField (zext16 0 ++ s.readWord s.ds1 s.iy) s.aw off len
      let t := (s.writeWord s.ds1 s.iy (d.setWidth 16)).setReg8 r1 (BitVec.ofNat 8 ((off + len) % 16))
      { t with iy := nextFieldOffset s.iy off len }.flags allUndefined
    else
      let d := insertField (s.fieldWords s.ds1 s.iy) s.aw off len
      let t :=
        ((s.writeWord s.ds1 s.iy (d.setWidth 16)).writeWord s.ds1 (s.iy + 2) (d.extractLsb' 16 16)).setReg8 r1
          (BitVec.ofNat 8 ((off + len) % 16))
      { t with iy := nextFieldOffset s.iy off len }.flags allUndefined
  else
    let f := fun k => Config.freeValue (s.freeCtr + k)
    let t := ((s.writeWord s.ds1 s.iy (f 0)).writeWord s.ds1 (s.iy + 2) (f 1)).setReg8 r1 (loByte (f 2))
    { t with iy := f 3, freeCtr := s.freeCtr + 4 }.flags allUndefined

/-- The register is AL or AH, which EXT also writes as AW (R258). -/
def regInAw : Reg → Bool
  | .al_aw | .ah_sp => true
  | .cl_cw | .dl_dw | .bl_bw | .ch_bp | .dh_ix | .bh_iy => false

/-- EXT (R258, R259). Outside the envelope everything that it can write is free: AW, the register, IX and the flags
(D20, U10). -/
def State.extractBits (s : State) (r1 : Reg) (lenm1 : Byte) (inEnvelope : Bool) : State :=
  let off := (s.getReg8 r1).toNat
  let len := lenm1.toNat + 1
  if inEnvelope && fieldOperandsOk (s.getReg8 r1) lenm1 then
    let seg := s.overridden .ds0
    let d := if off + len ≤ 16 then zext16 0 ++ s.readWord seg s.ix else s.fieldWords seg s.ix
    let t := { s with aw := extractField d off len }.setReg8 r1 (BitVec.ofNat 8 ((off + len) % 16))
    { t with ix := nextFieldOffset s.ix off len }.flags allUndefined
  else
    let f := fun k => Config.freeValue (s.freeCtr + k)
    let t := { s with aw := f 0 }.setReg8 r1 (loByte (f 1))
    { t with ix := f 2, freeCtr := s.freeCtr + 3 }.flags allUndefined

/-- R256. -/
def execInsReg8Reg8 (r1 r2 : Reg) (s : State) : Result := .next (s.insertBits r1 (s.getReg8 r2))

/-- R257. -/
def execInsReg8Imm4 (r : Reg) (i : Byte) (s : State) : Result := .next (s.insertBits r i)

/-- R258: AL or AH as an operand is outside the envelope. -/
def execExtReg8Reg8 (r1 r2 : Reg) (s : State) : Result :=
  .next (s.extractBits r1 (s.getReg8 r2) (!regInAw r1 && !regInAw r2))

/-- R259. -/
def execExtReg8Imm4 (r : Reg) (i : Byte) (s : State) : Result := .next (s.extractBits r i (!regInAw r))

/-! ## Input and output -/

/-- AL or AW loaded from a port (R260, R261). -/
def State.inAcc (s : State) (w : Width) (port : Word) : State :=
  let (v, t) := s.ioRead w port
  t.setReg w .al_aw v

/-- R260. -/
def execInAccImm8 (w : Width) (port : Byte) (s : State) : Result := .next (s.inAcc w (zext16 port))

/-- R261. -/
def execInAccDw (w : Width) (s : State) : Result := .next (s.inAcc w s.dw)

/-- R262. -/
def execOutImm8Acc (w : Width) (port : Byte) (s : State) : Result :=
  .next (s.ioWrite w (zext16 port) (s.getReg w .al_aw))

/-- R263. -/
def execOutDwAcc (w : Width) (s : State) : Result := .next (s.ioWrite w s.dw (s.getReg w .al_aw))

end Sys2Proof.Machine
end

