-- ==== Sys2Proof/Machine/Break.lean ====
section
/-! DEFINITION. Breaks, CPU control, coprocessor escapes, prefixes, and the two instructions of the emulation mode
(spec 48_break_cpu_control_prefix.md, 49_emulation_mode.md). -/

namespace Sys2Proof.Machine

/-! ## Breaks (R671 to R676) -/

/-- R671. -/
def execBrk3 (s : State) : Result := .next (s.interrupt 3)

/-- R672. -/
def execBrkImm8 (n : Byte) (s : State) : Result := .next (s.interrupt n)

/-- R673. -/
def execBrkv (s : State) : Result := .next (if s.psw.v then s.interrupt 4 else s)

/-- R674. -/
def execReti (s : State) : Result := .next s.returnFromInterrupt

/-- R675: MD is cleared and the write-enable latch set; IE and BRK stay (D45). With the latch set already the spec
refuses to step it (U8, R732). -/
def execBrkem (n : Byte) (s : State) : Result :=
  if s.mdWe then .refused .brkemNested
  else
    let t := s.pushFrame
    .next ({ t with psw := { t.psw with md := false }, mdWe := true }.enterVector n)

/-- `a < b` as CHKIND compares: signed unless parameter P6 says otherwise (R676, D46). -/
def chkindLess (a b : Word) : Bool := if Config.chkindSigned then a.slt b else a.ult b

/-- R676: both limits are inclusive. -/
def execChkind (r : Reg) (m : Mem) (s : State) : Result :=
  .next
    (if chkindLess (s.getReg16 r) (s.readLow m) || chkindLess (s.readHigh m) (s.getReg16 r) then s.interrupt 5
    else s)

/-! ## CPU control (R690 to R696) -/

/-- R690: standby, which the step leaves by R785 to R787. A BUSLOCK before it is remembered for the signal (R784). -/
def execHalt (s : State) : Result := .next { s with halted := true, haltLock := s.pfx.lock }

/-- R691. -/
def execDi (s : State) : Result := .next { s with psw := { s.psw with ie := false } }

/-- The instruction that is being run will be tried again: PC is that of its first byte, prefixes included, and the
queue is as it was before that byte (R692, D47). No control transfer: nothing is fetched anew (R109). -/
def State.retryOneByte (s : State) : State := { s with pc := s.startOfOneByte, queue := s.queueBefore }

/-- R692, D47: while the pin is high nothing changes, and the instruction is tried again. -/
def execPoll (s : State) : Result := .next (if s.pins.pollHigh then s.retryOneByte else s)

/-- R693: INT alone is held off at the boundary after it. -/
def execEi (s : State) : Result := .next { s with psw := { s.psw with ie := true }, inhibitInt := true }

/-- R696. -/
def execNop (s : State) : Result := .next s

/-! ## Coprocessor escapes (R700 to R703) -/

/-- R700: nothing changes in the CPU. -/
def execFpo1 (_x _y _z : BitVec 3) (s : State) : Result := .next s

/-- R701: the word read at the operand is discarded, and reading plain memory changes nothing (D48). -/
def execFpo1Mem (_x _y : BitVec 3) (_m : Mem) (s : State) : Result := .next s

/-- R702. -/
def execFpo2 (_x : Bool) (_y _z : BitVec 3) (s : State) : Result := .next s

/-- R703. -/
def execFpo2Mem (_x : Bool) (_y : BitVec 3) (_m : Mem) (s : State) : Result := .next s

/-! ## Prefixes (R135): each is read by a step of its own and kept for the instruction that follows -/

/-- A segment override: the last one counts (R710, D57). -/
def execSegOverride (sr : Sreg) (s : State) : Result :=
  .next { s with pfx := { s.pfx with seg := some sr, count := s.pfx.count + 1 } }

/-- BUSLOCK: a second one changes nothing (R694, D57). -/
def execBuslock (s : State) : Result := .next { s with pfx := { s.pfx with lock := true, count := s.pfx.count + 1 } }

/-- A repeat prefix; a different one before it is refused (R246, D11). The same one again changes nothing but the number
of prefix bytes, which counts both: DESIGN CHOICE of the model, since R246 and D11 speak of different ones only (log
entry 14). -/
def State.repeatPrefix (s : State) (r : Rep) : Result :=
  if s.pfx.rep = none ∨ s.pfx.rep = some r then
    .next { s with pfx := { s.pfx with rep := some r, count := s.pfx.count + 1 } }
  else .refused .repeatCombination

/-- R242. -/
def execRepc (s : State) : Result := s.repeatPrefix .repc

/-- R243. -/
def execRepnc (s : State) : Result := s.repeatPrefix .repnc

/-- R244. -/
def execRep (s : State) : Result := s.repeatPrefix .rep

/-- R245. -/
def execRepne (s : State) : Result := s.repeatPrefix .repne

/-! ## The instructions of the emulation mode (R727, R728) -/

/-- R727: the image pushed has MD = 0; IE and BRK stay (D45). -/
def execCalln (n : Byte) (s : State) : Result :=
  let t := s.pushFrame
  .next ({ t with psw := { t.psw with md := true } }.enterVector n)

/-- R728: MD comes from the image and the write-enable latch is cleared. -/
def execRetem (s : State) : Result :=
  let w := s.popped.popped.popValue
  .next
    ({ s.popped.popped.popped with psw := Psw.ofImage w, mdWe := false }.jumpFar s.popped.popValue s.popValue)

end Sys2Proof.Machine
end

