-- ==== Sys2Proof/Machine/Control.lean ====
section
/-! DEFINITION. Subroutines, branches, stack and frames (spec 47_control_transfer_stack.md). -/

namespace Sys2Proof.Machine

/-! ## Subroutines (R601 to R609) -/

/-- R601. -/
def execCallNear (disp : Word) (s : State) : Result := .next ((s.push s.pc).jump (s.pc + disp))

/-- R602: the register is read after the push, which matters for SP. -/
def execCallReg16 (r : Reg) (s : State) : Result :=
  let t := s.push s.pc
  .next (t.jump (t.getReg16 r))

/-- R603: the pointer is read before the push (D37). -/
def execCallMem16 (m : Mem) (s : State) : Result := .next ((s.push s.pc).jump (s.readOperand .word m))

/-- R604. -/
def execCallFar (off seg : Word) (s : State) : Result := .next (((s.push s.ps).push s.pc).jumpFar seg off)

/-- R605: the pointer is read before the pushes (D37). -/
def execCallMem32 (m : Mem) (s : State) : Result :=
  .next (((s.push s.ps).push s.pc).jumpFar (s.readHigh m) (s.readLow m))

/-- SP moved up by a pop-value (R607, R609). -/
def State.discard (s : State) (n : Word) : State := { s with sp := s.sp + n }

/-- The return to the same segment. -/
def State.retNear (s : State) (n : Word) : State := (s.popped.discard n).jump s.popValue

/-- The return to another segment: PC is popped first, then PS. -/
def State.retFar (s : State) (n : Word) : State :=
  (s.popped.popped.discard n).jumpFar s.popped.popValue s.popValue

/-- R606. -/
def execRetNear (s : State) : Result := .next (s.retNear 0)

/-- R607. -/
def execRetNearPop (n : Word) (s : State) : Result := .next (s.retNear n)

/-- R608. -/
def execRetFar (s : State) : Result := .next (s.retFar 0)

/-- R609. -/
def execRetFarPop (n : Word) (s : State) : Result := .next (s.retFar n)

/-! ## Branches (R610 to R615) -/

/-- R610. -/
def execBrNear (disp : Word) (s : State) : Result := .next (s.jump (s.pc + disp))

/-- R611. -/
def execBrShort (disp : Byte) (s : State) : Result := .next (s.jump (s.pc + sext16 disp))

/-- R612. -/
def execBrReg16 (r : Reg) (s : State) : Result := .next (s.jump (s.getReg16 r))

/-- R613. -/
def execBrMem16 (m : Mem) (s : State) : Result := .next (s.jump (s.readOperand .word m))

/-- R614. -/
def execBrFar (off seg : Word) (s : State) : Result := .next (s.jumpFar seg off)

/-- R615. -/
def execBrMem32 (m : Mem) (s : State) : Result := .next (s.jumpFar (s.readHigh m) (s.readLow m))

/-! ## Conditional branches (R650) -/

/-- A short branch taken under a condition; where it is not taken PC stays and the queue keeps its bytes (R650). -/
def State.branchIf (s : State) (cond : Bool) (disp : Byte) : State :=
  if cond then s.jump (s.pc + sext16 disp) else s

/-- R651. -/
def execBv (disp : Byte) (s : State) : Result := .next (s.branchIf (s.psw.v) disp)

/-- R652. -/
def execBnv (disp : Byte) (s : State) : Result := .next (s.branchIf (!s.psw.v) disp)

/-- R653. -/
def execBc (disp : Byte) (s : State) : Result := .next (s.branchIf (s.psw.cy) disp)

/-- R654. -/
def execBnc (disp : Byte) (s : State) : Result := .next (s.branchIf (!s.psw.cy) disp)

/-- R655. -/
def execBe (disp : Byte) (s : State) : Result := .next (s.branchIf (s.psw.z) disp)

/-- R656. -/
def execBne (disp : Byte) (s : State) : Result := .next (s.branchIf (!s.psw.z) disp)

/-- R657. -/
def execBnh (disp : Byte) (s : State) : Result := .next (s.branchIf (s.psw.cy || s.psw.z) disp)

/-- R658. -/
def execBh (disp : Byte) (s : State) : Result := .next (s.branchIf (!(s.psw.cy || s.psw.z)) disp)

/-- R659. -/
def execBn (disp : Byte) (s : State) : Result := .next (s.branchIf (s.psw.s) disp)

/-- R660. -/
def execBp (disp : Byte) (s : State) : Result := .next (s.branchIf (!s.psw.s) disp)

/-- R661. -/
def execBpe (disp : Byte) (s : State) : Result := .next (s.branchIf (s.psw.p) disp)

/-- R662. -/
def execBpo (disp : Byte) (s : State) : Result := .next (s.branchIf (!s.psw.p) disp)

/-- R663. -/
def execBlt (disp : Byte) (s : State) : Result := .next (s.branchIf (s.psw.s ^^ s.psw.v) disp)

/-- R664. -/
def execBge (disp : Byte) (s : State) : Result := .next (s.branchIf (!(s.psw.s ^^ s.psw.v)) disp)

/-- R665. -/
def execBle (disp : Byte) (s : State) : Result := .next (s.branchIf ((s.psw.s ^^ s.psw.v) || s.psw.z) disp)

/-- R666. -/
def execBgt (disp : Byte) (s : State) : Result := .next (s.branchIf (!((s.psw.s ^^ s.psw.v) || s.psw.z)) disp)

/-- `CW <- CW - 1` for a loop branch: no flag changes (R667). -/
def State.countDown (s : State) : State := { s with cw := s.cw - 1 }

/-- R667. -/
def execDbnzne (disp : Byte) (s : State) : Result :=
  .next (s.countDown.branchIf (s.countDown.cw != 0 && !s.psw.z) disp)

/-- R668. -/
def execDbnze (disp : Byte) (s : State) : Result :=
  .next (s.countDown.branchIf (s.countDown.cw != 0 && s.psw.z) disp)

/-- R669. -/
def execDbnz (disp : Byte) (s : State) : Result := .next (s.countDown.branchIf (s.countDown.cw != 0) disp)

/-- R617: CW keeps its value. -/
def execBcwz (disp : Byte) (s : State) : Result := .next (s.branchIf (s.cw == 0) disp)

/-! ## Stack (R630 to R647) -/

/-- The word that PUSH reg16 stores: for SP the value before or after the push by parameter P5 (R634, D44). -/
def State.pushedReg (s : State) (r : Reg) : Word :=
  match r, Config.pushSpValue with
  | .ah_sp, .new => s.sp - 2
  | r, _ => s.getReg16 r

/-- R633. -/
def execPushMem16 (m : Mem) (s : State) : Result := .next (s.push (s.readOperand .word m))

/-- R634. -/
def execPushReg16 (r : Reg) (s : State) : Result := .next (s.push (s.pushedReg r))

/-- R633 with mod = 11 (R154, D58). -/
def execPushReg16Alt (r : Reg) (s : State) : Result := .next (s.push (s.pushedReg r))

/-- R635. -/
def execPushSreg (sr : Sreg) (s : State) : Result := .next (s.push (s.getSreg sr))

/-- R636. -/
def execPushPsw (s : State) : Result := .next (s.push s.psw.image)

/-- R637: the SP stored is the one before the instruction. -/
def execPushR (s : State) : Result :=
  .next ((((((((s.push s.aw).push s.cw).push s.dw).push s.bw).push s.sp).push s.bp).push s.ix).push s.iy)

/-- R638. -/
def execPushImm8 (i : Byte) (s : State) : Result := .next (s.push (sext16 i))

/-- R639. -/
def execPushImm16 (imm : Word) (s : State) : Result := .next (s.push imm)

/-- R641. -/
def execPopMem16 (m : Mem) (s : State) : Result := .next (s.popped.writeOperand .word m s.popValue)

/-- A pop into a register, which is written after SP has grown (R631, D43). -/
def State.popReg (s : State) (r : Reg) : State := s.popped.setReg16 r s.popValue

/-- R642. -/
def execPopReg16 (r : Reg) (s : State) : Result := .next (s.popReg r)

/-- R641 with mod = 11 (R154, D58). -/
def execPopReg16Alt (r : Reg) (s : State) : Result := .next (s.popReg r)

/-- R643: NMI, INT and single step are held off at the boundary after it. -/
def execPopSreg (sr : Sreg) (s : State) : Result :=
  .next { s.popped.setSreg sr s.popValue with inhibitAll := true }

/-- R646. -/
def execPopPsw (s : State) : Result := .next (s.popped.loadPsw s.popValue)

/-- R647: the image of SP is skipped. -/
def execPopR (s : State) : Result :=
  let s1 := s.popReg .bh_iy
  let s2 := s1.popReg .dh_ix
  let s3 := (s2.popReg .ch_bp).popped
  let s4 := s3.popReg .bl_bw
  let s5 := s4.popReg .dl_dw
  let s6 := s5.popReg .cl_cw
  .next (s6.popReg .al_aw)

/-- The frame pointers of the enclosing levels, copied one by one through SS while BP steps down (R648). -/
def State.copyDisplay : Nat → State → State
  | 0, s => s
  | n + 1, s =>
    let t := { s with bp := s.bp - 2 }
    State.copyDisplay n (t.push (t.readWord t.ss t.bp))

/-- R648. -/
def execPrepare (size : Word) (level : Byte) (s : State) : Result :=
  let t := s.push s.bp
  let frame := t.sp
  let u := if level = 0 then t else (State.copyDisplay (level.toNat - 1) t).push frame
  .next { u with bp := frame, sp := u.sp - size }

/-- R649. -/
def execDispose (s : State) : Result :=
  let t := { s with sp := s.bp }
  .next { t.popped with bp := t.popValue }

end Sys2Proof.Machine
end

