-- ==== Sys2Proof/Machine/Logic.lean ====
section
/-! DEFINITION. CMP, NOT, NEG, TEST, AND, OR and XOR (spec 44_compare_complement_logical.md). -/

namespace Sys2Proof.Machine

/-! ## CMP: the flags of a difference that is not stored (R420) -/

/-- The flags of `a - b`. -/
def State.compare (s : State) {w : Width} (a b : BitVec w.bits) : State := s.flags (aluEffect .cmp s.psw.cy a b)

/-- R421. -/
def execCmpRegReg (w : Width) (d r : Reg) (s : State) : Result := .next (s.compare (s.getReg w d) (s.getReg w r))

/-- R421, the d = 0 encoding (R302, R145). -/
def execCmpRegRegAlt (w : Width) (d r : Reg) (s : State) : Result := .next (s.compare (s.getReg w d) (s.getReg w r))

/-- R422. -/
def execCmpMemReg (w : Width) (m : Mem) (r : Reg) (s : State) : Result :=
  .next (s.compare (s.readOperand w m) (s.getReg w r))

/-- R423. -/
def execCmpRegMem (w : Width) (r : Reg) (m : Mem) (s : State) : Result :=
  .next (s.compare (s.getReg w r) (s.readOperand w m))

/-- R424. -/
def execCmpRegImm (sw : SW) (r : Reg) (imm : Word) (s : State) : Result :=
  .next (s.compare (s.getReg sw.width r) (swValue sw imm))

/-- R425. -/
def execCmpMemImm (sw : SW) (m : Mem) (imm : Word) (s : State) : Result :=
  .next (s.compare (s.readOperand sw.width m) (swValue sw imm))

/-- R426. -/
def execCmpAccImm (w : Width) (imm : Word) (s : State) : Result :=
  .next (s.compare (s.getReg w .al_aw) (immValue w imm))

/-! ## NOT and NEG -/

/-- R427. -/
def execNotReg (w : Width) (r : Reg) (s : State) : Result := .next (s.setReg w r (~~~s.getReg w r))

/-- R428. -/
def execNotMem (w : Width) (m : Mem) (s : State) : Result := .next (s.writeOperand w m (~~~s.readOperand w m))

/-- R429: `SubFlags(0, a, 0, n)`. -/
def execNegReg (w : Width) (r : Reg) (s : State) : Result :=
  .next ((s.setReg w r (subResult 0 (s.getReg w r) false)).flags (subFlags 0 (s.getReg w r) false))

/-- R430. -/
def execNegMem (w : Width) (m : Mem) (s : State) : Result :=
  .next ((s.writeOperand w m (subResult 0 (s.readOperand w m) false)).flags (subFlags 0 (s.readOperand w m) false))

/-! ## TEST: the flags of a conjunction that is not stored (R431) -/

/-- The flags of `a AND b`. -/
def State.test (s : State) {w : Width} (a b : BitVec w.bits) : State := s.flags (logicFlags (a &&& b))

/-- R433. -/
def execTestRegReg (w : Width) (d r : Reg) (s : State) : Result := .next (s.test (s.getReg w d) (s.getReg w r))

/-- R434. -/
def execTestMemReg (w : Width) (m : Mem) (r : Reg) (s : State) : Result :=
  .next (s.test (s.readOperand w m) (s.getReg w r))

/-- R435. -/
def execTestRegImm (w : Width) (r : Reg) (imm : Word) (s : State) : Result :=
  .next (s.test (s.getReg w r) (immValue w imm))

/-- R436. -/
def execTestMemImm (w : Width) (m : Mem) (imm : Word) (s : State) : Result :=
  .next (s.test (s.readOperand w m) (immValue w imm))

/-- R437. -/
def execTestAccImm (w : Width) (imm : Word) (s : State) : Result :=
  .next (s.test (s.getReg w .al_aw) (immValue w imm))

/-! ## AND, OR, XOR -/

/-- R438. -/
def execAndRegReg (w : Width) (d r : Reg) (s : State) : Result := .next (s.aluReg .and w d (s.getReg w r))

/-- R438, the d = 0 encoding (R431, R145). -/
def execAndRegRegAlt (w : Width) (d r : Reg) (s : State) : Result := .next (s.aluReg .and w d (s.getReg w r))

/-- R439. -/
def execAndMemReg (w : Width) (m : Mem) (r : Reg) (s : State) : Result := .next (s.aluMem .and w m (s.getReg w r))

/-- R440. -/
def execAndRegMem (w : Width) (r : Reg) (m : Mem) (s : State) : Result := .next (s.aluReg .and w r (s.readOperand w m))

/-- R441. -/
def execAndRegImm (w : Width) (r : Reg) (imm : Word) (s : State) : Result := .next (s.aluReg .and w r (immValue w imm))

/-- R442. -/
def execAndMemImm (w : Width) (m : Mem) (imm : Word) (s : State) : Result := .next (s.aluMem .and w m (immValue w imm))

/-- R443. -/
def execAndAccImm (w : Width) (imm : Word) (s : State) : Result := .next (s.aluReg .and w .al_aw (immValue w imm))

/-- R441 under 82H and 83H (R432, D41). -/
def execAndRegImmAlt (w : Width) (r : Reg) (i : Byte) (s : State) : Result := .next (s.aluReg .and w r (immSext w i))

/-- R442 under 82H and 83H (R432, D41). -/
def execAndMemImmAlt (w : Width) (m : Mem) (i : Byte) (s : State) : Result := .next (s.aluMem .and w m (immSext w i))

/-- R444. -/
def execOrRegReg (w : Width) (d r : Reg) (s : State) : Result := .next (s.aluReg .or w d (s.getReg w r))

/-- R444, the d = 0 encoding (R431, R145). -/
def execOrRegRegAlt (w : Width) (d r : Reg) (s : State) : Result := .next (s.aluReg .or w d (s.getReg w r))

/-- R445. -/
def execOrMemReg (w : Width) (m : Mem) (r : Reg) (s : State) : Result := .next (s.aluMem .or w m (s.getReg w r))

/-- R446. -/
def execOrRegMem (w : Width) (r : Reg) (m : Mem) (s : State) : Result := .next (s.aluReg .or w r (s.readOperand w m))

/-- R447. -/
def execOrRegImm (w : Width) (r : Reg) (imm : Word) (s : State) : Result := .next (s.aluReg .or w r (immValue w imm))

/-- R448. -/
def execOrMemImm (w : Width) (m : Mem) (imm : Word) (s : State) : Result := .next (s.aluMem .or w m (immValue w imm))

/-- R449. -/
def execOrAccImm (w : Width) (imm : Word) (s : State) : Result := .next (s.aluReg .or w .al_aw (immValue w imm))

/-- R447 under 82H and 83H (R432, D41). -/
def execOrRegImmAlt (w : Width) (r : Reg) (i : Byte) (s : State) : Result := .next (s.aluReg .or w r (immSext w i))

/-- R448 under 82H and 83H (R432, D41). -/
def execOrMemImmAlt (w : Width) (m : Mem) (i : Byte) (s : State) : Result := .next (s.aluMem .or w m (immSext w i))

/-- R450. -/
def execXorRegReg (w : Width) (d r : Reg) (s : State) : Result := .next (s.aluReg .xor w d (s.getReg w r))

/-- R450, the d = 0 encoding (R431, R145). -/
def execXorRegRegAlt (w : Width) (d r : Reg) (s : State) : Result := .next (s.aluReg .xor w d (s.getReg w r))

/-- R451. -/
def execXorMemReg (w : Width) (m : Mem) (r : Reg) (s : State) : Result := .next (s.aluMem .xor w m (s.getReg w r))

/-- R452. -/
def execXorRegMem (w : Width) (r : Reg) (m : Mem) (s : State) : Result := .next (s.aluReg .xor w r (s.readOperand w m))

/-- R453. -/
def execXorRegImm (w : Width) (r : Reg) (imm : Word) (s : State) : Result := .next (s.aluReg .xor w r (immValue w imm))

/-- R454. -/
def execXorMemImm (w : Width) (m : Mem) (imm : Word) (s : State) : Result := .next (s.aluMem .xor w m (immValue w imm))

/-- R455. -/
def execXorAccImm (w : Width) (imm : Word) (s : State) : Result := .next (s.aluReg .xor w .al_aw (immValue w imm))

/-- R453 under 82H and 83H (R432, D41). -/
def execXorRegImmAlt (w : Width) (r : Reg) (i : Byte) (s : State) : Result := .next (s.aluReg .xor w r (immSext w i))

/-- R454 under 82H and 83H (R432, D41). -/
def execXorMemImmAlt (w : Width) (m : Mem) (i : Byte) (s : State) : Result := .next (s.aluMem .xor w m (immSext w i))

end Sys2Proof.Machine
end

