-- ==== Sys2Proof/Machine/MulDiv.lean ====
section
/-! DEFINITION. INC, DEC, multiplication, division, decimal adjustment and conversion (spec
43_incdec_mul_div_adjust_convert.md). -/

namespace Sys2Proof.Machine

/-! ## INC and DEC (R350) -/

/-- The flags of INC: CY keeps its value. -/
def incFlags {n : Nat} (a : BitVec n) : FlagEffect :=
  let r := a + 1
  ⟨.put (decide (a.toNat + 1 = 2 ^ (n - 1))), .put (flagS r), .put (flagZ r), .put (decide (a.toNat % 16 = 15)),
    .put (flagP r), .keep⟩

/-- The flags of DEC: CY keeps its value. -/
def decFlags {n : Nat} (a : BitVec n) : FlagEffect :=
  let r := a - 1
  ⟨.put (decide (a.toNat = 2 ^ (n - 1))), .put (flagS r), .put (flagZ r), .put (decide (a.toNat % 16 = 0)),
    .put (flagP r), .keep⟩

/-- INC of a register. -/
def State.incReg (s : State) (w : Width) (r : Reg) : State :=
  (s.setReg w r (s.getReg w r + 1)).flags (incFlags (s.getReg w r))

/-- DEC of a register. -/
def State.decReg (s : State) (w : Width) (r : Reg) : State :=
  (s.setReg w r (s.getReg w r - 1)).flags (decFlags (s.getReg w r))

/-- R351. -/
def execIncReg8 (r : Reg) (s : State) : Result := .next (s.incReg .byte r)

/-- R352. -/
def execIncMem (w : Width) (m : Mem) (s : State) : Result :=
  .next ((s.writeOperand w m (s.readOperand w m + 1)).flags (incFlags (s.readOperand w m)))

/-- R353. -/
def execIncReg16 (r : Reg) (s : State) : Result := .next (s.incReg .word r)

/-- R352 with mod = 11 (R145, D58). -/
def execIncReg16Alt (r : Reg) (s : State) : Result := .next (s.incReg .word r)

/-- R354. -/
def execDecReg8 (r : Reg) (s : State) : Result := .next (s.decReg .byte r)

/-- R355. -/
def execDecMem (w : Width) (m : Mem) (s : State) : Result :=
  .next ((s.writeOperand w m (s.readOperand w m - 1)).flags (decFlags (s.readOperand w m)))

/-- R356. -/
def execDecReg16 (r : Reg) (s : State) : Result := .next (s.decReg .word r)

/-- R355 with mod = 11 (R145, D58). -/
def execDecReg16Alt (r : Reg) (s : State) : Result := .next (s.decReg .word r)

/-! ## Multiplication (R360, R369) -/

/-- V and CY as given; S, Z, AC and P undefined. -/
def mulFlags (ov : Bool) : FlagEffect := ⟨.put ov, .undef, .undef, .undef, .undef, .put ov⟩

/-- `AL * d` unsigned, in AW (R361). -/
def State.mulu8 (s : State) (d : Byte) : State :=
  let p : Word := zext16 s.al * zext16 d
  { s with aw := p }.flags (mulFlags (hiByte p != 0))

/-- `AW * d` unsigned, in DW:AW (R363). -/
def State.mulu16 (s : State) (d : Word) : State :=
  let p : BitVec 32 := s.aw.setWidth 32 * d.setWidth 32
  { s with aw := p.setWidth 16, dw := p.extractLsb' 16 16 }.flags (mulFlags (p.extractLsb' 16 16 != 0))

/-- All bits are the sign bit of a value: its sign extension by as many bits as it has. -/
def signFill {n : Nat} (x : BitVec n) : BitVec n := if x.msb then -1 else 0

/-- `AL * d` signed, in AW (R365). -/
def State.mul8 (s : State) (d : Byte) : State :=
  let p : Word := BitVec.ofInt 16 (s.al.toInt * d.toInt)
  { s with aw := p }.flags (mulFlags (hiByte p != signFill (loByte p)))

/-- `AW * d` signed, in DW:AW (R367). -/
def State.mul16 (s : State) (d : Word) : State :=
  let p : BitVec 32 := BitVec.ofInt 32 (s.aw.toInt * d.toInt)
  { s with aw := p.setWidth 16, dw := p.extractLsb' 16 16 }.flags
    (mulFlags (p.extractLsb' 16 16 != signFill (p.setWidth 16)))

/-- The three-operand form: the low word of the product, V and CY where it is no signed 16-bit value (R369). -/
def State.mulImm (s : State) (dst : Reg) (src imm : Word) : State :=
  let p := src.toInt * imm.toInt
  (s.setReg16 dst (BitVec.ofInt 16 p)).flags (mulFlags (decide (p < -32768 ∨ 32767 < p)))

/-- R361. -/
def execMuluReg8 (r : Reg) (s : State) : Result := .next (s.mulu8 (s.getReg8 r))

/-- R363. -/
def execMuluReg16 (r : Reg) (s : State) : Result := .next (s.mulu16 (s.getReg16 r))

/-- R362. -/
def execMuluMem8 (m : Mem) (s : State) : Result := .next (s.mulu8 (s.readOperand .byte m))

/-- R364. -/
def execMuluMem16 (m : Mem) (s : State) : Result := .next (s.mulu16 (s.readOperand .word m))

/-- R365. -/
def execMulReg8 (r : Reg) (s : State) : Result := .next (s.mul8 (s.getReg8 r))

/-- R367. -/
def execMulReg16 (r : Reg) (s : State) : Result := .next (s.mul16 (s.getReg16 r))

/-- R366. -/
def execMulMem8 (m : Mem) (s : State) : Result := .next (s.mul8 (s.readOperand .byte m))

/-- R368. -/
def execMulMem16 (m : Mem) (s : State) : Result := .next (s.mul16 (s.readOperand .word m))

/-- R370. -/
def execMulReg16Reg16Imm8 (d r : Reg) (i : Byte) (s : State) : Result := .next (s.mulImm d (s.getReg16 r) (sext16 i))

/-- R371. -/
def execMulReg16Mem16Imm8 (d : Reg) (m : Mem) (i : Byte) (s : State) : Result :=
  .next (s.mulImm d (s.readOperand .word m) (sext16 i))

/-- R372. -/
def execMulReg16Reg16Imm16 (d r : Reg) (imm : Word) (s : State) : Result := .next (s.mulImm d (s.getReg16 r) imm)

/-- R373. -/
def execMulReg16Mem16Imm16 (d : Reg) (m : Mem) (imm : Word) (s : State) : Result :=
  .next (s.mulImm d (s.readOperand .word m) imm)

/-! ## Division (R380, R381) -/

/-- Quotient and remainder, unsigned; none is the divide error. -/
def divuParts (max temp d : Nat) : Option (Nat × Nat) :=
  if d = 0 ∨ max < temp / d then none else some (temp / d, temp % d)

/-- Quotient, truncated toward zero, and remainder, signed; none is the divide error. The least quotient is the
negative of the greatest (R381, D40). -/
def divParts (qmax temp d : Int) : Option (Int × Int) :=
  if d = 0 then none
  else if qmax < temp.tdiv d ∨ temp.tdiv d < -qmax then none
  else some (temp.tdiv d, temp.tmod d)

/-- DW:AW (R380). -/
def State.dwaw (s : State) : BitVec 32 := s.dw ++ s.aw

/-- The divide error of a byte form: the flags and AL, AH are undefined, then vector 0 is entered (R380, U6, R755). -/
def State.divideError8 (s : State) : State :=
  let t := s.flags allUndefined
  ({ t with aw := t.free }.drawn).interrupt 0

/-- The divide error of a word form: the flags and AW, DW are undefined, then vector 0 is entered. -/
def State.divideError16 (s : State) : State :=
  let t := s.flags allUndefined
  let u := { t with aw := t.free }.drawn
  ({ u with dw := u.free }.drawn).interrupt 0

/-- Quotient to AL, remainder to AH; all six flags undefined. -/
def State.quotient8 (s : State) (q r : Byte) : State := { s with aw := mkWord r q }.flags allUndefined

/-- Quotient to AW, remainder to DW; all six flags undefined. -/
def State.quotient16 (s : State) (q r : Word) : State := { s with aw := q, dw := r }.flags allUndefined

/-- DIVU, byte form. -/
def State.divu8 (s : State) (d : Byte) : State :=
  match divuParts 0xFF s.aw.toNat d.toNat with
  | none => s.divideError8
  | some (q, r) => s.quotient8 (BitVec.ofNat 8 q) (BitVec.ofNat 8 r)

/-- DIVU, word form. -/
def State.divu16 (s : State) (d : Word) : State :=
  match divuParts 0xFFFF s.dwaw.toNat d.toNat with
  | none => s.divideError16
  | some (q, r) => s.quotient16 (BitVec.ofNat 16 q) (BitVec.ofNat 16 r)

/-- DIV, byte form. -/
def State.div8 (s : State) (d : Byte) : State :=
  match divParts 127 s.aw.toInt d.toInt with
  | none => s.divideError8
  | some (q, r) => s.quotient8 (BitVec.ofInt 8 q) (BitVec.ofInt 8 r)

/-- DIV, word form. -/
def State.div16 (s : State) (d : Word) : State :=
  match divParts 32767 s.dwaw.toInt d.toInt with
  | none => s.divideError16
  | some (q, r) => s.quotient16 (BitVec.ofInt 16 q) (BitVec.ofInt 16 r)

/-- R382. -/
def execDivuReg8 (r : Reg) (s : State) : Result := .next (s.divu8 (s.getReg8 r))

/-- R384. -/
def execDivuReg16 (r : Reg) (s : State) : Result := .next (s.divu16 (s.getReg16 r))

/-- R383. -/
def execDivuMem8 (m : Mem) (s : State) : Result := .next (s.divu8 (s.readOperand .byte m))

/-- R385. -/
def execDivuMem16 (m : Mem) (s : State) : Result := .next (s.divu16 (s.readOperand .word m))

/-- R386. -/
def execDivReg8 (r : Reg) (s : State) : Result := .next (s.div8 (s.getReg8 r))

/-- R388. -/
def execDivReg16 (r : Reg) (s : State) : Result := .next (s.div16 (s.getReg16 r))

/-- R387. -/
def execDivMem8 (m : Mem) (s : State) : Result := .next (s.div8 (s.readOperand .byte m))

/-- R389. -/
def execDivMem16 (m : Mem) (s : State) : Result := .next (s.div16 (s.readOperand .word m))

/-! ## Decimal adjustment (R390) -/

/-- The first test of the four: the low digit is no decimal digit, or AC is set. -/
def State.adjustsLow (s : State) : Bool := decide (9 < s.al.toNat % 16) || s.psw.ac

/-- V, S, Z and P undefined, AC and CY as given (R391, R393). -/
def unpackedFlags (b : Bool) : FlagEffect := ⟨.undef, .undef, .undef, .put b, .undef, .put b⟩

/-- R391. -/
def execAdjba (s : State) : Result :=
  .next
    (if s.adjustsLow then (({ s with aw := mkWord (s.ah + 1) ((s.al + 6) &&& 0x0F) }).flags (unpackedFlags true))
    else (s.setAl (s.al &&& 0x0F)).flags (unpackedFlags false))

/-- R393. -/
def execAdjbs (s : State) : Result :=
  .next
    (if s.adjustsLow then (({ s with aw := mkWord (s.ah - 1) ((s.al - 6) &&& 0x0F) }).flags (unpackedFlags true))
    else (s.setAl (s.al &&& 0x0F)).flags (unpackedFlags false))

/-- V undefined, S, Z and P from AL, AC and CY as given (R392, R394). -/
def packedFlags (al : Byte) (ac cy : Bool) : FlagEffect :=
  ⟨.undef, .put (flagS al), .put (flagZ al), .put ac, .put (flagP al), .put cy⟩

/-- The second test of ADJ4A and ADJ4S, made after the first step. -/
def adjustsHigh (al : Byte) (cy : Bool) : Bool := decide (0x9F < al.toNat) || cy

/-- R392. -/
def execAdj4a (s : State) : Result :=
  let al1 := if s.adjustsLow then s.al + 6 else s.al
  let cy1 := s.psw.cy || (s.adjustsLow && decide (0x100 ≤ s.al.toNat + 6))
  let high := adjustsHigh al1 cy1
  let al2 := if high then al1 + 0x60 else al1
  .next ((s.setAl al2).flags (packedFlags al2 s.adjustsLow high))

/-- R394. -/
def execAdj4s (s : State) : Result :=
  let al1 := if s.adjustsLow then s.al - 6 else s.al
  let cy1 := s.psw.cy || (s.adjustsLow && decide (s.al.toNat < 6))
  let high := adjustsHigh al1 cy1
  let al2 := if high then al1 - 0x60 else al1
  .next ((s.setAl al2).flags (packedFlags al2 s.adjustsLow high))

/-! ## Conversion -/

/-- V, AC and CY undefined, S, Z and P from AL (R400, R401). -/
def convertFlags (al : Byte) : FlagEffect := ⟨.undef, .put (flagS al), .put (flagZ al), .undef, .put (flagP al), .undef⟩

/-- R400. -/
def execCvtbd (s : State) : Result :=
  let al := BitVec.ofNat 8 (s.al.toNat % 10)
  .next ({ s with aw := mkWord (BitVec.ofNat 8 (s.al.toNat / 10)) al }.flags (convertFlags al))

/-- R401. -/
def execCvtdb (s : State) : Result :=
  let al := s.ah * 10 + s.al
  .next ({ s with aw := mkWord 0 al }.flags (convertFlags al))

/-- R402. -/
def execCvtbw (s : State) : Result := .next (s.setAh (signFill s.al))

/-- R403. -/
def execCvtwl (s : State) : Result := .next { s with dw := signFill s.aw }

end Sys2Proof.Machine
end

