-- ==== Sys2Proof/Machine/Shift.lean ====
section
/-! DEFINITION. Shifts and rotates (spec 46_shift_rotate.md). -/

namespace Sys2Proof.Machine

/-- One step: the value and the carry after it (R522). -/
def shiftStep {n : Nat} (op : ShiftOp) (x : BitVec n) (c : Bool) : BitVec n × Bool :=
  match op with
  | .shl => (x <<< 1, x.msb)
  | .shr => (x >>> 1, x.getLsbD 0)
  | .shra => (x.sshiftRight 1, x.getLsbD 0)
  | .rol => (x <<< 1 ||| carryIn x.msb, x.msb)
  | .ror => (x >>> 1 ||| (carryIn (x.getLsbD 0)) <<< (n - 1), x.getLsbD 0)
  | .rolc => (x <<< 1 ||| carryIn c, x.msb)
  | .rorc => (x >>> 1 ||| (carryIn c) <<< (n - 1), x.getLsbD 0)

/-- `Iter(Step, x, c, k)` (R522). -/
def shiftIter {n : Nat} (op : ShiftOp) : Nat → BitVec n × Bool → BitVec n × Bool
  | 0, xc => xc
  | k + 1, xc => shiftIter op k (shiftStep op xc.1 xc.2)

/-- The operation is a shift, not a rotate. -/
def isShift : ShiftOp → Bool
  | .shl | .shr | .shra => true
  | .rol | .ror | .rolc | .rorc => false

/-- V after a single step (R523). -/
def shiftV {n : Nat} (op : ShiftOp) (r : BitVec n) (cy : Bool) : Bool :=
  match op with
  | .shl | .rol | .rolc => r.msb ^^ cy
  | .shr | .ror | .rorc => r.msb ^^ r.getLsbD (n - 2)
  | .shra => false

/-- The flags from a value of V: a shift sets S, Z and P and leaves AC undefined, a rotate changes none of the four
(R523). -/
def shiftFlags {n : Nat} (op : ShiftOp) (v : FlagChange) (r : BitVec n) (cy : Bool) : FlagEffect :=
  if isShift op then ⟨v, .put (flagS r), .put (flagZ r), .undef, .put (flagP r), .put cy⟩
  else ⟨v, .keep, .keep, .keep, .keep, .put cy⟩

/-- The flags of a form with a count of 0: V and, for a shift, AC are undefined, the others keep their values (R521,
D42). -/
def zeroCountFlags (op : ShiftOp) : FlagEffect :=
  ⟨.undef, .keep, .keep, if isShift op then .undef else .keep, .keep, .keep⟩

/-- The flags of the forms that shift once. -/
def singleFlags {n : Nat} (op : ShiftOp) (x : BitVec n) (c : Bool) : FlagEffect :=
  let rc := shiftStep op x c
  shiftFlags op (.put (shiftV op rc.1 rc.2)) rc.1 rc.2

/-- The flags of the forms with a count (R521, R523). -/
def multiFlags {n : Nat} (op : ShiftOp) (x : BitVec n) (c : Bool) (k : Nat) : FlagEffect :=
  if k = 0 then zeroCountFlags op
  else
    let rc := shiftIter op k (x, c)
    shiftFlags op .undef rc.1 rc.2

/-- A register shifted once. -/
def State.shiftReg1 (s : State) (op : ShiftOp) (w : Width) (r : Reg) : State :=
  (s.setReg w r (shiftStep op (s.getReg w r) s.psw.cy).1).flags (singleFlags op (s.getReg w r) s.psw.cy)

/-- A memory operand shifted once: read once, written once (R524). -/
def State.shiftMem1 (s : State) (op : ShiftOp) (w : Width) (m : Mem) : State :=
  (s.writeOperand w m (shiftStep op (s.readOperand w m) s.psw.cy).1).flags
    (singleFlags op (s.readOperand w m) s.psw.cy)

/-- A register shifted by a count of 0 to 255 (R521). -/
def State.shiftReg (s : State) (op : ShiftOp) (w : Width) (r : Reg) (count : Byte) : State :=
  (s.setReg w r (shiftIter op count.toNat (s.getReg w r, s.psw.cy)).1).flags
    (multiFlags op (s.getReg w r) s.psw.cy count.toNat)

/-- A memory operand shifted by a count of 0 to 255; with 0 it is written back as it is (R524). -/
def State.shiftMem (s : State) (op : ShiftOp) (w : Width) (m : Mem) (count : Byte) : State :=
  (s.writeOperand w m (shiftIter op count.toNat (s.readOperand w m, s.psw.cy)).1).flags
    (multiFlags op (s.readOperand w m) s.psw.cy count.toNat)

/-- R525. -/
def execShlReg1 (w : Width) (r : Reg) (s : State) : Result := .next (s.shiftReg1 .shl w r)

/-- R526. -/
def execShlMem1 (w : Width) (m : Mem) (s : State) : Result := .next (s.shiftMem1 .shl w m)

/-- R527. -/
def execShlRegCl (w : Width) (r : Reg) (s : State) : Result := .next (s.shiftReg .shl w r s.cl)

/-- R528. -/
def execShlMemCl (w : Width) (m : Mem) (s : State) : Result := .next (s.shiftMem .shl w m s.cl)

/-- R529. -/
def execShlRegImm8 (w : Width) (r : Reg) (i : Byte) (s : State) : Result := .next (s.shiftReg .shl w r i)

/-- R530. -/
def execShlMemImm8 (w : Width) (m : Mem) (i : Byte) (s : State) : Result := .next (s.shiftMem .shl w m i)

/-- R531. -/
def execShrReg1 (w : Width) (r : Reg) (s : State) : Result := .next (s.shiftReg1 .shr w r)

/-- R532. -/
def execShrMem1 (w : Width) (m : Mem) (s : State) : Result := .next (s.shiftMem1 .shr w m)

/-- R533. -/
def execShrRegCl (w : Width) (r : Reg) (s : State) : Result := .next (s.shiftReg .shr w r s.cl)

/-- R534. -/
def execShrMemCl (w : Width) (m : Mem) (s : State) : Result := .next (s.shiftMem .shr w m s.cl)

/-- R535. -/
def execShrRegImm8 (w : Width) (r : Reg) (i : Byte) (s : State) : Result := .next (s.shiftReg .shr w r i)

/-- R536. -/
def execShrMemImm8 (w : Width) (m : Mem) (i : Byte) (s : State) : Result := .next (s.shiftMem .shr w m i)

/-- R537. -/
def execShraReg1 (w : Width) (r : Reg) (s : State) : Result := .next (s.shiftReg1 .shra w r)

/-- R538. -/
def execShraMem1 (w : Width) (m : Mem) (s : State) : Result := .next (s.shiftMem1 .shra w m)

/-- R539. -/
def execShraRegCl (w : Width) (r : Reg) (s : State) : Result := .next (s.shiftReg .shra w r s.cl)

/-- R540. -/
def execShraMemCl (w : Width) (m : Mem) (s : State) : Result := .next (s.shiftMem .shra w m s.cl)

/-- R541. -/
def execShraRegImm8 (w : Width) (r : Reg) (i : Byte) (s : State) : Result := .next (s.shiftReg .shra w r i)

/-- R542. -/
def execShraMemImm8 (w : Width) (m : Mem) (i : Byte) (s : State) : Result := .next (s.shiftMem .shra w m i)

/-- R543. -/
def execRolReg1 (w : Width) (r : Reg) (s : State) : Result := .next (s.shiftReg1 .rol w r)

/-- R544. -/
def execRolMem1 (w : Width) (m : Mem) (s : State) : Result := .next (s.shiftMem1 .rol w m)

/-- R545. -/
def execRolRegCl (w : Width) (r : Reg) (s : State) : Result := .next (s.shiftReg .rol w r s.cl)

/-- R546. -/
def execRolMemCl (w : Width) (m : Mem) (s : State) : Result := .next (s.shiftMem .rol w m s.cl)

/-- R547. -/
def execRolRegImm8 (w : Width) (r : Reg) (i : Byte) (s : State) : Result := .next (s.shiftReg .rol w r i)

/-- R548. -/
def execRolMemImm8 (w : Width) (m : Mem) (i : Byte) (s : State) : Result := .next (s.shiftMem .rol w m i)

/-- R549. -/
def execRorReg1 (w : Width) (r : Reg) (s : State) : Result := .next (s.shiftReg1 .ror w r)

/-- R550. -/
def execRorMem1 (w : Width) (m : Mem) (s : State) : Result := .next (s.shiftMem1 .ror w m)

/-- R551. -/
def execRorRegCl (w : Width) (r : Reg) (s : State) : Result := .next (s.shiftReg .ror w r s.cl)

/-- R552. -/
def execRorMemCl (w : Width) (m : Mem) (s : State) : Result := .next (s.shiftMem .ror w m s.cl)

/-- R553. -/
def execRorRegImm8 (w : Width) (r : Reg) (i : Byte) (s : State) : Result := .next (s.shiftReg .ror w r i)

/-- R554. -/
def execRorMemImm8 (w : Width) (m : Mem) (i : Byte) (s : State) : Result := .next (s.shiftMem .ror w m i)

/-- R555. -/
def execRolcReg1 (w : Width) (r : Reg) (s : State) : Result := .next (s.shiftReg1 .rolc w r)

/-- R556. -/
def execRolcMem1 (w : Width) (m : Mem) (s : State) : Result := .next (s.shiftMem1 .rolc w m)

/-- R557. -/
def execRolcRegCl (w : Width) (r : Reg) (s : State) : Result := .next (s.shiftReg .rolc w r s.cl)

/-- R558. -/
def execRolcMemCl (w : Width) (m : Mem) (s : State) : Result := .next (s.shiftMem .rolc w m s.cl)

/-- R559. -/
def execRolcRegImm8 (w : Width) (r : Reg) (i : Byte) (s : State) : Result := .next (s.shiftReg .rolc w r i)

/-- R560. -/
def execRolcMemImm8 (w : Width) (m : Mem) (i : Byte) (s : State) : Result := .next (s.shiftMem .rolc w m i)

/-- R561. -/
def execRorcReg1 (w : Width) (r : Reg) (s : State) : Result := .next (s.shiftReg1 .rorc w r)

/-- R562. -/
def execRorcMem1 (w : Width) (m : Mem) (s : State) : Result := .next (s.shiftMem1 .rorc w m)

/-- R563. -/
def execRorcRegCl (w : Width) (r : Reg) (s : State) : Result := .next (s.shiftReg .rorc w r s.cl)

/-- R564. -/
def execRorcMemCl (w : Width) (m : Mem) (s : State) : Result := .next (s.shiftMem .rorc w m s.cl)

/-- R565. -/
def execRorcRegImm8 (w : Width) (r : Reg) (i : Byte) (s : State) : Result := .next (s.shiftReg .rorc w r i)

/-- R566. -/
def execRorcMemImm8 (w : Width) (m : Mem) (i : Byte) (s : State) : Result := .next (s.shiftMem .rorc w m i)

end Sys2Proof.Machine
end

