-- ==== Sys2Proof/Machine/Transfer.lean ====
section
/-! DEFINITION. MOV, LDEA, TRANS, XCH (spec 40_data_transfer.md). -/

namespace Sys2Proof.Machine

/-- The instruction holds off NMI, INT and the single-step break at the boundary after it (R765, D53). -/
def State.inhibitingAll (s : State) : State := { s with inhibitAll := true }

/-- Register to register (R201). -/
def movRR (w : Width) (d r : Reg) (s : State) : State := s.setReg w d (s.getReg w r)

/-- Immediate to register (R204 with mod = 11, R205). -/
def movRI (w : Width) (r : Reg) (imm : Word) (s : State) : State := s.setReg w r (immValue w imm)

/-- R201. -/
def execMovRegReg (w : Width) (d r : Reg) (s : State) : Result := .next (movRR w d r s)

/-- R201, the d = 0 encoding (R145). -/
def execMovRegRegAlt (w : Width) (d r : Reg) (s : State) : Result := .next (movRR w d r s)

/-- R202. -/
def execMovMemReg (w : Width) (m : Mem) (r : Reg) (s : State) : Result := .next (s.writeOperand w m (s.getReg w r))

/-- R203. -/
def execMovRegMem (w : Width) (r : Reg) (m : Mem) (s : State) : Result := .next (s.setReg w r (s.readOperand w m))

/-- R204. -/
def execMovMemImm (w : Width) (m : Mem) (imm : Word) (s : State) : Result :=
  .next (s.writeOperand w m (immValue w imm))

/-- R205. -/
def execMovRegImm (w : Width) (r : Reg) (imm : Word) (s : State) : Result := .next (movRI w r imm s)

/-- R204 with mod = 11 (R145, D58). -/
def execMovRegImmAlt (w : Width) (r : Reg) (imm : Word) (s : State) : Result := .next (movRI w r imm s)

/-- R206. -/
def execMovAccDmem (w : Width) (addr : Word) (s : State) : Result :=
  .next (s.setReg w .al_aw (s.readMem w (s.overridden .ds0) addr))

/-- R207. -/
def execMovDmemAcc (w : Width) (addr : Word) (s : State) : Result :=
  .next (s.writeMem w (s.overridden .ds0) addr (s.getReg w .al_aw))

/-- R208. -/
def execMovSregReg16 (sr : Sreg) (r : Reg) (s : State) : Result :=
  .next (s.setSreg sr (s.getReg16 r)).inhibitingAll

/-- R209. -/
def execMovSregMem16 (sr : Sreg) (m : Mem) (s : State) : Result :=
  .next (s.setSreg sr (s.readOperand .word m)).inhibitingAll

/-- R210. -/
def execMovReg16Sreg (r : Reg) (sr : Sreg) (s : State) : Result :=
  .next (s.setReg16 r (s.getSreg sr)).inhibitingAll

/-- R211. -/
def execMovMem16Sreg (m : Mem) (sr : Sreg) (s : State) : Result :=
  .next (s.writeOperand .word m (s.getSreg sr)).inhibitingAll

/-- R212. -/
def execMovDs0Reg16Mem32 (r : Reg) (m : Mem) (s : State) : Result :=
  .next ((s.setReg16 r (s.readLow m)).setSreg .ds0 (s.readHigh m))

/-- R213. -/
def execMovDs1Reg16Mem32 (r : Reg) (m : Mem) (s : State) : Result :=
  .next ((s.setReg16 r (s.readLow m)).setSreg .ds1 (s.readHigh m))

/-- The byte of MOV AH,PSW: S Z x AC x P x CY, the bits x taken from a free value (R214, U3). -/
def pswLowByte (f : Psw) (free : Word) : Byte :=
  BitVec.ofBool f.s ++ BitVec.ofBool f.z ++ BitVec.ofBool (free.getLsbD 5) ++ BitVec.ofBool f.ac ++
    BitVec.ofBool (free.getLsbD 3) ++ BitVec.ofBool f.p ++ BitVec.ofBool (free.getLsbD 1) ++ BitVec.ofBool f.cy

/-- R214. -/
def execMovAhPsw (s : State) : Result := .next (s.setAh (pswLowByte s.psw s.free)).drawn

/-- R215. -/
def execMovPswAh (s : State) : Result :=
  .next
    (s.flags
      ⟨.keep, .put (s.ah.getLsbD 7), .put (s.ah.getLsbD 6), .put (s.ah.getLsbD 4), .put (s.ah.getLsbD 2),
        .put (s.ah.getLsbD 0)⟩)

/-- R216. -/
def execLdea (r : Reg) (m : Mem) (s : State) : Result := .next (s.setReg16 r (s.ea m))

/-- R217. -/
def execTrans (s : State) : Result := .next (s.setAl (s.readByte (s.overridden .ds0) (s.bw + zext16 s.al)))

/-- R218. -/
def execXchRegReg (w : Width) (d r : Reg) (s : State) : Result :=
  .next ((s.setReg w d (s.getReg w r)).setReg w r (s.getReg w d))

/-- R219: memory is read before it is written. -/
def execXchMemReg (w : Width) (m : Mem) (r : Reg) (s : State) : Result :=
  .next ((s.writeOperand w m (s.getReg w r)).setReg w r (s.readOperand w m))

/-- R220. -/
def execXchAwReg16 (r : Reg) (s : State) : Result :=
  .next ((s.setReg16 .al_aw (s.getReg16 r)).setReg16 r s.aw)

end Sys2Proof.Machine
end

