-- ==== Sys2Proof/Machine/Dispatch.lean ====
section
/-! DEFINITION. What an instruction does: one arm for each constructor of Instr, in the order of the opcode table. -/

namespace Sys2Proof.Machine

def exec (i : Instr) (s : State) : Host.Outcome State Fault Refusal :=
  match i with
  | .movRegReg w d r => Sys2Proof.Machine.execMovRegReg w d r s
  | .movMemReg w m r => Sys2Proof.Machine.execMovMemReg w m r s
  | .movRegMem w r m => Sys2Proof.Machine.execMovRegMem w r m s
  | .movMemImm w m imm => Sys2Proof.Machine.execMovMemImm w m imm s
  | .movRegImm w r imm => Sys2Proof.Machine.execMovRegImm w r imm s
  | .movAccDmem w addr => Sys2Proof.Machine.execMovAccDmem w addr s
  | .movDmemAcc w addr => Sys2Proof.Machine.execMovDmemAcc w addr s
  | .movSregReg16 sr r => Sys2Proof.Machine.execMovSregReg16 sr r s
  | .movSregMem16 sr m => Sys2Proof.Machine.execMovSregMem16 sr m s
  | .movReg16Sreg r sr => Sys2Proof.Machine.execMovReg16Sreg r sr s
  | .movMem16Sreg m sr => Sys2Proof.Machine.execMovMem16Sreg m sr s
  | .movDs0Reg16Mem32 r m => Sys2Proof.Machine.execMovDs0Reg16Mem32 r m s
  | .movDs1Reg16Mem32 r m => Sys2Proof.Machine.execMovDs1Reg16Mem32 r m s
  | .movAhPsw => Sys2Proof.Machine.execMovAhPsw s
  | .movPswAh => Sys2Proof.Machine.execMovPswAh s
  | .ldea r m => Sys2Proof.Machine.execLdea r m s
  | .trans => Sys2Proof.Machine.execTrans s
  | .xchRegReg w d r => Sys2Proof.Machine.execXchRegReg w d r s
  | .xchMemReg w m r => Sys2Proof.Machine.execXchMemReg w m r s
  | .xchAwReg16 r => Sys2Proof.Machine.execXchAwReg16 r s
  | .repc => Sys2Proof.Machine.execRepc s
  | .repnc => Sys2Proof.Machine.execRepnc s
  | .rep => Sys2Proof.Machine.execRep s
  | .repne => Sys2Proof.Machine.execRepne s
  | .movbk w => Sys2Proof.Machine.execMovbk w s
  | .cmpbk w => Sys2Proof.Machine.execCmpbk w s
  | .cmpm w => Sys2Proof.Machine.execCmpm w s
  | .ldm w => Sys2Proof.Machine.execLdm w s
  | .stm w => Sys2Proof.Machine.execStm w s
  | .insReg8Reg8 r1 r2 => Sys2Proof.Machine.execInsReg8Reg8 r1 r2 s
  | .insReg8Imm4 r n => Sys2Proof.Machine.execInsReg8Imm4 r n s
  | .extReg8Reg8 r1 r2 => Sys2Proof.Machine.execExtReg8Reg8 r1 r2 s
  | .extReg8Imm4 r n => Sys2Proof.Machine.execExtReg8Imm4 r n s
  | .inAccImm8 w port => Sys2Proof.Machine.execInAccImm8 w port s
  | .inAccDw w => Sys2Proof.Machine.execInAccDw w s
  | .outImm8Acc w port => Sys2Proof.Machine.execOutImm8Acc w port s
  | .outDwAcc w => Sys2Proof.Machine.execOutDwAcc w s
  | .inm w => Sys2Proof.Machine.execInm w s
  | .outm w => Sys2Proof.Machine.execOutm w s
  | .addRegReg w d r => Sys2Proof.Machine.execAddRegReg w d r s
  | .addMemReg w m r => Sys2Proof.Machine.execAddMemReg w m r s
  | .addRegMem w r m => Sys2Proof.Machine.execAddRegMem w r m s
  | .addRegImm sw r imm => Sys2Proof.Machine.execAddRegImm sw r imm s
  | .addMemImm sw m imm => Sys2Proof.Machine.execAddMemImm sw m imm s
  | .addAccImm w imm => Sys2Proof.Machine.execAddAccImm w imm s
  | .addcRegReg w d r => Sys2Proof.Machine.execAddcRegReg w d r s
  | .addcMemReg w m r => Sys2Proof.Machine.execAddcMemReg w m r s
  | .addcRegMem w r m => Sys2Proof.Machine.execAddcRegMem w r m s
  | .addcRegImm sw r imm => Sys2Proof.Machine.execAddcRegImm sw r imm s
  | .addcMemImm sw m imm => Sys2Proof.Machine.execAddcMemImm sw m imm s
  | .addcAccImm w imm => Sys2Proof.Machine.execAddcAccImm w imm s
  | .subRegReg w d r => Sys2Proof.Machine.execSubRegReg w d r s
  | .subMemReg w m r => Sys2Proof.Machine.execSubMemReg w m r s
  | .subRegMem w r m => Sys2Proof.Machine.execSubRegMem w r m s
  | .subRegImm sw r imm => Sys2Proof.Machine.execSubRegImm sw r imm s
  | .subMemImm sw m imm => Sys2Proof.Machine.execSubMemImm sw m imm s
  | .subAccImm w imm => Sys2Proof.Machine.execSubAccImm w imm s
  | .subcRegReg w d r => Sys2Proof.Machine.execSubcRegReg w d r s
  | .subcMemReg w m r => Sys2Proof.Machine.execSubcMemReg w m r s
  | .subcRegMem w r m => Sys2Proof.Machine.execSubcRegMem w r m s
  | .subcRegImm sw r imm => Sys2Proof.Machine.execSubcRegImm sw r imm s
  | .subcMemImm sw m imm => Sys2Proof.Machine.execSubcMemImm sw m imm s
  | .subcAccImm w imm => Sys2Proof.Machine.execSubcAccImm w imm s
  | .add4s => Sys2Proof.Machine.execAdd4s s
  | .sub4s => Sys2Proof.Machine.execSub4s s
  | .cmp4s => Sys2Proof.Machine.execCmp4s s
  | .rol4Reg8 r => Sys2Proof.Machine.execRol4Reg8 r s
  | .rol4Mem8 m => Sys2Proof.Machine.execRol4Mem8 m s
  | .ror4Reg8 r => Sys2Proof.Machine.execRor4Reg8 r s
  | .ror4Mem8 m => Sys2Proof.Machine.execRor4Mem8 m s
  | .incReg8 r => Sys2Proof.Machine.execIncReg8 r s
  | .incMem w m => Sys2Proof.Machine.execIncMem w m s
  | .incReg16 r => Sys2Proof.Machine.execIncReg16 r s
  | .decReg8 r => Sys2Proof.Machine.execDecReg8 r s
  | .decMem w m => Sys2Proof.Machine.execDecMem w m s
  | .decReg16 r => Sys2Proof.Machine.execDecReg16 r s
  | .muluReg8 r => Sys2Proof.Machine.execMuluReg8 r s
  | .muluMem8 m => Sys2Proof.Machine.execMuluMem8 m s
  | .muluReg16 r => Sys2Proof.Machine.execMuluReg16 r s
  | .muluMem16 m => Sys2Proof.Machine.execMuluMem16 m s
  | .mulReg8 r => Sys2Proof.Machine.execMulReg8 r s
  | .mulMem8 m => Sys2Proof.Machine.execMulMem8 m s
  | .mulReg16 r => Sys2Proof.Machine.execMulReg16 r s
  | .mulMem16 m => Sys2Proof.Machine.execMulMem16 m s
  | .mulReg16Reg16Imm8 d r n => Sys2Proof.Machine.execMulReg16Reg16Imm8 d r n s
  | .mulReg16Mem16Imm8 d m n => Sys2Proof.Machine.execMulReg16Mem16Imm8 d m n s
  | .mulReg16Reg16Imm16 d r imm => Sys2Proof.Machine.execMulReg16Reg16Imm16 d r imm s
  | .mulReg16Mem16Imm16 d m imm => Sys2Proof.Machine.execMulReg16Mem16Imm16 d m imm s
  | .divuReg8 r => Sys2Proof.Machine.execDivuReg8 r s
  | .divuMem8 m => Sys2Proof.Machine.execDivuMem8 m s
  | .divuReg16 r => Sys2Proof.Machine.execDivuReg16 r s
  | .divuMem16 m => Sys2Proof.Machine.execDivuMem16 m s
  | .divReg8 r => Sys2Proof.Machine.execDivReg8 r s
  | .divMem8 m => Sys2Proof.Machine.execDivMem8 m s
  | .divReg16 r => Sys2Proof.Machine.execDivReg16 r s
  | .divMem16 m => Sys2Proof.Machine.execDivMem16 m s
  | .adjba => Sys2Proof.Machine.execAdjba s
  | .adj4a => Sys2Proof.Machine.execAdj4a s
  | .adjbs => Sys2Proof.Machine.execAdjbs s
  | .adj4s => Sys2Proof.Machine.execAdj4s s
  | .cvtbd => Sys2Proof.Machine.execCvtbd s
  | .cvtdb => Sys2Proof.Machine.execCvtdb s
  | .cvtbw => Sys2Proof.Machine.execCvtbw s
  | .cvtwl => Sys2Proof.Machine.execCvtwl s
  | .cmpRegReg w d r => Sys2Proof.Machine.execCmpRegReg w d r s
  | .cmpMemReg w m r => Sys2Proof.Machine.execCmpMemReg w m r s
  | .cmpRegMem w r m => Sys2Proof.Machine.execCmpRegMem w r m s
  | .cmpRegImm sw r imm => Sys2Proof.Machine.execCmpRegImm sw r imm s
  | .cmpMemImm sw m imm => Sys2Proof.Machine.execCmpMemImm sw m imm s
  | .cmpAccImm w imm => Sys2Proof.Machine.execCmpAccImm w imm s
  | .notReg w r => Sys2Proof.Machine.execNotReg w r s
  | .notMem w m => Sys2Proof.Machine.execNotMem w m s
  | .negReg w r => Sys2Proof.Machine.execNegReg w r s
  | .negMem w m => Sys2Proof.Machine.execNegMem w m s
  | .testRegReg w d r => Sys2Proof.Machine.execTestRegReg w d r s
  | .testMemReg w m r => Sys2Proof.Machine.execTestMemReg w m r s
  | .testRegImm w r imm => Sys2Proof.Machine.execTestRegImm w r imm s
  | .testMemImm w m imm => Sys2Proof.Machine.execTestMemImm w m imm s
  | .testAccImm w imm => Sys2Proof.Machine.execTestAccImm w imm s
  | .andRegReg w d r => Sys2Proof.Machine.execAndRegReg w d r s
  | .andMemReg w m r => Sys2Proof.Machine.execAndMemReg w m r s
  | .andRegMem w r m => Sys2Proof.Machine.execAndRegMem w r m s
  | .andRegImm w r imm => Sys2Proof.Machine.execAndRegImm w r imm s
  | .andMemImm w m imm => Sys2Proof.Machine.execAndMemImm w m imm s
  | .andAccImm w imm => Sys2Proof.Machine.execAndAccImm w imm s
  | .orRegReg w d r => Sys2Proof.Machine.execOrRegReg w d r s
  | .orMemReg w m r => Sys2Proof.Machine.execOrMemReg w m r s
  | .orRegMem w r m => Sys2Proof.Machine.execOrRegMem w r m s
  | .orRegImm w r imm => Sys2Proof.Machine.execOrRegImm w r imm s
  | .orMemImm w m imm => Sys2Proof.Machine.execOrMemImm w m imm s
  | .orAccImm w imm => Sys2Proof.Machine.execOrAccImm w imm s
  | .xorRegReg w d r => Sys2Proof.Machine.execXorRegReg w d r s
  | .xorMemReg w m r => Sys2Proof.Machine.execXorMemReg w m r s
  | .xorRegMem w r m => Sys2Proof.Machine.execXorRegMem w r m s
  | .xorRegImm w r imm => Sys2Proof.Machine.execXorRegImm w r imm s
  | .xorMemImm w m imm => Sys2Proof.Machine.execXorMemImm w m imm s
  | .xorAccImm w imm => Sys2Proof.Machine.execXorAccImm w imm s
  | .test1Reg8Cl r => Sys2Proof.Machine.execTest1Reg8Cl r s
  | .test1Mem8Cl m => Sys2Proof.Machine.execTest1Mem8Cl m s
  | .test1Reg16Cl r => Sys2Proof.Machine.execTest1Reg16Cl r s
  | .test1Mem16Cl m => Sys2Proof.Machine.execTest1Mem16Cl m s
  | .test1Reg8Imm r n => Sys2Proof.Machine.execTest1Reg8Imm r n s
  | .test1Mem8Imm m n => Sys2Proof.Machine.execTest1Mem8Imm m n s
  | .test1Reg16Imm r n => Sys2Proof.Machine.execTest1Reg16Imm r n s
  | .test1Mem16Imm m n => Sys2Proof.Machine.execTest1Mem16Imm m n s
  | .not1Reg8Cl r => Sys2Proof.Machine.execNot1Reg8Cl r s
  | .not1Mem8Cl m => Sys2Proof.Machine.execNot1Mem8Cl m s
  | .not1Reg16Cl r => Sys2Proof.Machine.execNot1Reg16Cl r s
  | .not1Mem16Cl m => Sys2Proof.Machine.execNot1Mem16Cl m s
  | .not1Reg8Imm r n => Sys2Proof.Machine.execNot1Reg8Imm r n s
  | .not1Mem8Imm m n => Sys2Proof.Machine.execNot1Mem8Imm m n s
  | .not1Reg16Imm r n => Sys2Proof.Machine.execNot1Reg16Imm r n s
  | .not1Mem16Imm m n => Sys2Proof.Machine.execNot1Mem16Imm m n s
  | .not1Cy => Sys2Proof.Machine.execNot1Cy s
  | .clr1Reg8Cl r => Sys2Proof.Machine.execClr1Reg8Cl r s
  | .clr1Mem8Cl m => Sys2Proof.Machine.execClr1Mem8Cl m s
  | .clr1Reg16Cl r => Sys2Proof.Machine.execClr1Reg16Cl r s
  | .clr1Mem16Cl m => Sys2Proof.Machine.execClr1Mem16Cl m s
  | .clr1Reg8Imm r n => Sys2Proof.Machine.execClr1Reg8Imm r n s
  | .clr1Mem8Imm m n => Sys2Proof.Machine.execClr1Mem8Imm m n s
  | .clr1Reg16Imm r n => Sys2Proof.Machine.execClr1Reg16Imm r n s
  | .clr1Mem16Imm m n => Sys2Proof.Machine.execClr1Mem16Imm m n s
  | .clr1Cy => Sys2Proof.Machine.execClr1Cy s
  | .clr1Dir => Sys2Proof.Machine.execClr1Dir s
  | .set1Reg8Cl r => Sys2Proof.Machine.execSet1Reg8Cl r s
  | .set1Mem8Cl m => Sys2Proof.Machine.execSet1Mem8Cl m s
  | .set1Reg16Cl r => Sys2Proof.Machine.execSet1Reg16Cl r s
  | .set1Mem16Cl m => Sys2Proof.Machine.execSet1Mem16Cl m s
  | .set1Reg8Imm r n => Sys2Proof.Machine.execSet1Reg8Imm r n s
  | .set1Mem8Imm m n => Sys2Proof.Machine.execSet1Mem8Imm m n s
  | .set1Reg16Imm r n => Sys2Proof.Machine.execSet1Reg16Imm r n s
  | .set1Mem16Imm m n => Sys2Proof.Machine.execSet1Mem16Imm m n s
  | .set1Cy => Sys2Proof.Machine.execSet1Cy s
  | .set1Dir => Sys2Proof.Machine.execSet1Dir s
  | .shlReg1 w r => Sys2Proof.Machine.execShlReg1 w r s
  | .shlMem1 w m => Sys2Proof.Machine.execShlMem1 w m s
  | .shlRegCl w r => Sys2Proof.Machine.execShlRegCl w r s
  | .shlMemCl w m => Sys2Proof.Machine.execShlMemCl w m s
  | .shlRegImm8 w r n => Sys2Proof.Machine.execShlRegImm8 w r n s
  | .shlMemImm8 w m n => Sys2Proof.Machine.execShlMemImm8 w m n s
  | .shrReg1 w r => Sys2Proof.Machine.execShrReg1 w r s
  | .shrMem1 w m => Sys2Proof.Machine.execShrMem1 w m s
  | .shrRegCl w r => Sys2Proof.Machine.execShrRegCl w r s
  | .shrMemCl w m => Sys2Proof.Machine.execShrMemCl w m s
  | .shrRegImm8 w r n => Sys2Proof.Machine.execShrRegImm8 w r n s
  | .shrMemImm8 w m n => Sys2Proof.Machine.execShrMemImm8 w m n s
  | .shraReg1 w r => Sys2Proof.Machine.execShraReg1 w r s
  | .shraMem1 w m => Sys2Proof.Machine.execShraMem1 w m s
  | .shraRegCl w r => Sys2Proof.Machine.execShraRegCl w r s
  | .shraMemCl w m => Sys2Proof.Machine.execShraMemCl w m s
  | .shraRegImm8 w r n => Sys2Proof.Machine.execShraRegImm8 w r n s
  | .shraMemImm8 w m n => Sys2Proof.Machine.execShraMemImm8 w m n s
  | .rolReg1 w r => Sys2Proof.Machine.execRolReg1 w r s
  | .rolMem1 w m => Sys2Proof.Machine.execRolMem1 w m s
  | .rolRegCl w r => Sys2Proof.Machine.execRolRegCl w r s
  | .rolMemCl w m => Sys2Proof.Machine.execRolMemCl w m s
  | .rolRegImm8 w r n => Sys2Proof.Machine.execRolRegImm8 w r n s
  | .rolMemImm8 w m n => Sys2Proof.Machine.execRolMemImm8 w m n s
  | .rorReg1 w r => Sys2Proof.Machine.execRorReg1 w r s
  | .rorMem1 w m => Sys2Proof.Machine.execRorMem1 w m s
  | .rorRegCl w r => Sys2Proof.Machine.execRorRegCl w r s
  | .rorMemCl w m => Sys2Proof.Machine.execRorMemCl w m s
  | .rorRegImm8 w r n => Sys2Proof.Machine.execRorRegImm8 w r n s
  | .rorMemImm8 w m n => Sys2Proof.Machine.execRorMemImm8 w m n s
  | .rolcReg1 w r => Sys2Proof.Machine.execRolcReg1 w r s
  | .rolcMem1 w m => Sys2Proof.Machine.execRolcMem1 w m s
  | .rolcRegCl w r => Sys2Proof.Machine.execRolcRegCl w r s
  | .rolcMemCl w m => Sys2Proof.Machine.execRolcMemCl w m s
  | .rolcRegImm8 w r n => Sys2Proof.Machine.execRolcRegImm8 w r n s
  | .rolcMemImm8 w m n => Sys2Proof.Machine.execRolcMemImm8 w m n s
  | .rorcReg1 w r => Sys2Proof.Machine.execRorcReg1 w r s
  | .rorcMem1 w m => Sys2Proof.Machine.execRorcMem1 w m s
  | .rorcRegCl w r => Sys2Proof.Machine.execRorcRegCl w r s
  | .rorcMemCl w m => Sys2Proof.Machine.execRorcMemCl w m s
  | .rorcRegImm8 w r n => Sys2Proof.Machine.execRorcRegImm8 w r n s
  | .rorcMemImm8 w m n => Sys2Proof.Machine.execRorcMemImm8 w m n s
  | .callNear disp => Sys2Proof.Machine.execCallNear disp s
  | .callReg16 r => Sys2Proof.Machine.execCallReg16 r s
  | .callMem16 m => Sys2Proof.Machine.execCallMem16 m s
  | .callFar off seg => Sys2Proof.Machine.execCallFar off seg s
  | .callMem32 m => Sys2Proof.Machine.execCallMem32 m s
  | .retNear => Sys2Proof.Machine.execRetNear s
  | .retNearPop n => Sys2Proof.Machine.execRetNearPop n s
  | .retFar => Sys2Proof.Machine.execRetFar s
  | .retFarPop n => Sys2Proof.Machine.execRetFarPop n s
  | .brNear disp => Sys2Proof.Machine.execBrNear disp s
  | .brShort disp => Sys2Proof.Machine.execBrShort disp s
  | .brReg16 r => Sys2Proof.Machine.execBrReg16 r s
  | .brMem16 m => Sys2Proof.Machine.execBrMem16 m s
  | .brFar off seg => Sys2Proof.Machine.execBrFar off seg s
  | .brMem32 m => Sys2Proof.Machine.execBrMem32 m s
  | .pushMem16 m => Sys2Proof.Machine.execPushMem16 m s
  | .pushReg16 r => Sys2Proof.Machine.execPushReg16 r s
  | .pushSreg sr => Sys2Proof.Machine.execPushSreg sr s
  | .pushPsw => Sys2Proof.Machine.execPushPsw s
  | .pushR => Sys2Proof.Machine.execPushR s
  | .pushImm8 n => Sys2Proof.Machine.execPushImm8 n s
  | .pushImm16 imm => Sys2Proof.Machine.execPushImm16 imm s
  | .popMem16 m => Sys2Proof.Machine.execPopMem16 m s
  | .popReg16 r => Sys2Proof.Machine.execPopReg16 r s
  | .popSreg sr => Sys2Proof.Machine.execPopSreg sr s
  | .popPsw => Sys2Proof.Machine.execPopPsw s
  | .popR => Sys2Proof.Machine.execPopR s
  | .prepare size level => Sys2Proof.Machine.execPrepare size level s
  | .dispose => Sys2Proof.Machine.execDispose s
  | .bv disp => Sys2Proof.Machine.execBv disp s
  | .bnv disp => Sys2Proof.Machine.execBnv disp s
  | .bc disp => Sys2Proof.Machine.execBc disp s
  | .bnc disp => Sys2Proof.Machine.execBnc disp s
  | .be disp => Sys2Proof.Machine.execBe disp s
  | .bne disp => Sys2Proof.Machine.execBne disp s
  | .bnh disp => Sys2Proof.Machine.execBnh disp s
  | .bh disp => Sys2Proof.Machine.execBh disp s
  | .bn disp => Sys2Proof.Machine.execBn disp s
  | .bp disp => Sys2Proof.Machine.execBp disp s
  | .bpe disp => Sys2Proof.Machine.execBpe disp s
  | .bpo disp => Sys2Proof.Machine.execBpo disp s
  | .blt disp => Sys2Proof.Machine.execBlt disp s
  | .bge disp => Sys2Proof.Machine.execBge disp s
  | .ble disp => Sys2Proof.Machine.execBle disp s
  | .bgt disp => Sys2Proof.Machine.execBgt disp s
  | .dbnzne disp => Sys2Proof.Machine.execDbnzne disp s
  | .dbnze disp => Sys2Proof.Machine.execDbnze disp s
  | .dbnz disp => Sys2Proof.Machine.execDbnz disp s
  | .bcwz disp => Sys2Proof.Machine.execBcwz disp s
  | .brk3 => Sys2Proof.Machine.execBrk3 s
  | .brkImm8 n => Sys2Proof.Machine.execBrkImm8 n s
  | .brkv => Sys2Proof.Machine.execBrkv s
  | .reti => Sys2Proof.Machine.execReti s
  | .brkem n => Sys2Proof.Machine.execBrkem n s
  | .chkind r m => Sys2Proof.Machine.execChkind r m s
  | .halt => Sys2Proof.Machine.execHalt s
  | .di => Sys2Proof.Machine.execDi s
  | .poll => Sys2Proof.Machine.execPoll s
  | .ei => Sys2Proof.Machine.execEi s
  | .buslock => Sys2Proof.Machine.execBuslock s
  | .nop => Sys2Proof.Machine.execNop s
  | .fpo1 x y z => Sys2Proof.Machine.execFpo1 x y z s
  | .fpo1Mem x y m => Sys2Proof.Machine.execFpo1Mem x y m s
  | .fpo2 x y z => Sys2Proof.Machine.execFpo2 x y z s
  | .fpo2Mem x y m => Sys2Proof.Machine.execFpo2Mem x y m s
  | .segOverride sr => Sys2Proof.Machine.execSegOverride sr s
  | .calln n => Sys2Proof.Machine.execCalln n s
  | .retem => Sys2Proof.Machine.execRetem s
  | .movRegRegAlt w d r => Sys2Proof.Machine.execMovRegRegAlt w d r s
  | .movRegImmAlt w r imm => Sys2Proof.Machine.execMovRegImmAlt w r imm s
  | .addRegRegAlt w d r => Sys2Proof.Machine.execAddRegRegAlt w d r s
  | .addcRegRegAlt w d r => Sys2Proof.Machine.execAddcRegRegAlt w d r s
  | .subRegRegAlt w d r => Sys2Proof.Machine.execSubRegRegAlt w d r s
  | .subcRegRegAlt w d r => Sys2Proof.Machine.execSubcRegRegAlt w d r s
  | .incReg16Alt r => Sys2Proof.Machine.execIncReg16Alt r s
  | .decReg16Alt r => Sys2Proof.Machine.execDecReg16Alt r s
  | .cmpRegRegAlt w d r => Sys2Proof.Machine.execCmpRegRegAlt w d r s
  | .andRegRegAlt w d r => Sys2Proof.Machine.execAndRegRegAlt w d r s
  | .andRegImmAlt w r n => Sys2Proof.Machine.execAndRegImmAlt w r n s
  | .andMemImmAlt w m n => Sys2Proof.Machine.execAndMemImmAlt w m n s
  | .orRegRegAlt w d r => Sys2Proof.Machine.execOrRegRegAlt w d r s
  | .orRegImmAlt w r n => Sys2Proof.Machine.execOrRegImmAlt w r n s
  | .orMemImmAlt w m n => Sys2Proof.Machine.execOrMemImmAlt w m n s
  | .xorRegRegAlt w d r => Sys2Proof.Machine.execXorRegRegAlt w d r s
  | .xorRegImmAlt w r n => Sys2Proof.Machine.execXorRegImmAlt w r n s
  | .xorMemImmAlt w m n => Sys2Proof.Machine.execXorMemImmAlt w m n s
  | .pushReg16Alt r => Sys2Proof.Machine.execPushReg16Alt r s
  | .popReg16Alt r => Sys2Proof.Machine.execPopReg16Alt r s

end Sys2Proof.Machine
end

