-- ==== Sys2Proof/Machine/Emulation.lean ====
section
/-! DEFINITION. What the emulation mode fixes of an 8080 instruction, whose set the spec leaves out: the registers and
flags of the 8080 as parts of the native ones, the addresses of its memory and stack, and that it reaches nothing else
(spec 49_emulation_mode.md R722 to R725). -/

namespace Sys2Proof.Machine

/-! ## Registers and flags (R723, R724) -/

/-- The seven byte registers of the 8080. -/
inductive Reg8080
  | a
  | b
  | c
  | d
  | e
  | h
  | l
deriving DecidableEq, Repr

/-- The native byte register that an 8080 register is (R723). The pairing of the six general registers is PRESUMED by the
spec itself [general knowledge G3]. -/
def native8080 : Reg8080 → Reg
  | .a => .al_aw
  | .b => .ch_bp
  | .c => .cl_cw
  | .d => .dh_ix
  | .e => .dl_dw
  | .h => .bh_iy
  | .l => .bl_bw

/-- A register of the 8080. -/
def State.get8080 (s : State) (r : Reg8080) : Byte := s.getReg8 (native8080 r)

/-- A register of the 8080 written. -/
def State.set8080 (s : State) (r : Reg8080) (v : Byte) : State := s.setReg8 (native8080 r) v

/-- The stack pointer of the 8080 is BP (R723). -/
def State.sp8080 (s : State) : Word := s.bp

/-- The stack pointer of the 8080 written. -/
def State.setSp8080 (s : State) (v : Word) : State := { s with bp := v }

/-- The flag byte of the 8080 is the low byte of the PSW: S Z 0 AC 0 P 1 CY (R724). -/
def State.flags8080 (s : State) : Byte := loByte s.psw.image

/-- The flag byte of the 8080 written: the high byte of the PSW stays (R724). -/
def State.setFlags8080 (s : State) (f : Byte) : State :=
  { s with psw := { s.psw with
      s := f.getLsbD 7, z := f.getLsbD 6, ac := f.getLsbD 4, p := f.getLsbD 2, cy := f.getLsbD 0 } }

/-! ## Memory (R725): an 8080 address is an offset in the segment of DS0, and there is no override -/

/-- The physical address of an 8080 address. -/
def State.phys8080 (s : State) (a : Word) : PhysAddr := phys s.ds0 a

/-- A byte of the 8080's memory. -/
def State.read8080 (s : State) (a : Word) : Byte := s.readByte s.ds0 a

/-- A byte of the 8080's memory written. -/
def State.write8080 (s : State) (a : Word) (v : Byte) : State := s.writeByte s.ds0 a v

/-- The byte `k` places above the top of the 8080's stack, which is at DS0:BP. -/
def State.readStack8080 (s : State) (k : Word) : Byte := s.read8080 (s.sp8080 + k)

/-- The byte `k` places above the top of the 8080's stack written. -/
def State.writeStack8080 (s : State) (k : Word) (v : Byte) : State := s.write8080 (s.sp8080 + k) v

/-- A physical address is one that an 8080 address reaches. -/
def State.reached8080 (s : State) (k : Nat) : Bool :=
  decide (k < 2 ^ 20) && decide ((k + 2 ^ 20 - s.ds0.toNat * 16) % 2 ^ 20 < 2 ^ 16)

/-- The new memory at the addresses of a set and the old one elsewhere. -/
def Memory.replaceIn (inside : Nat → Bool) (old new : List Host.Cell) : List Host.Cell :=
  new.foldr (fun c m => if inside c.1 then Memory.write m c.1 c.2 else m) (old.filter fun c => !inside c.1)

/-! ## The parameter -/

/-- Parameter P7, `exec8080`: what one instruction of the 8080 set does to the machine, its fetch, PC and queue included
(`State.issue` takes its bytes). At the spec's default it is absent (R722, D2). A reader who has the 8080 set puts it
here, or gives it to `stepWith`. -/
def exec8080 : Option (State → State) := none

/-- The seven registers, the stack pointer and the flags of the 8080 as they are in `t`, all other registers and flags
as they are in `s`. -/
def State.withRegs8080 (s t : State) : State :=
  ([Reg8080.a, .b, .c, .d, .e, .h, .l].foldl (fun u r => u.set8080 r (t.get8080 r)) s).setSp8080 t.sp8080
    |>.setFlags8080 t.flags8080

/-- The state after an 8080 instruction that was started in `s` and leaves `t`: from `t` come what such an instruction
reaches, its registers, PC and flags, the segment of DS0, the ports, IE and standby (R724, R783), and what has been
used up in getting there. AH, SP, IX, IY, the segment registers and V, DIR, BRK and MD are not addressable (R723), nor
are the latches and pins; no inhibit window is open, no prefix held (R765), and there is no BUSLOCK in this mode
(R725). -/
def State.after8080 (s t : State) : State :=
  let u := s.withRegs8080 t
  { u with
    pc := t.pc
    psw := { u.psw with ie := t.psw.ie }
    halted := t.halted
    mem := Memory.replaceIn s.reached8080 s.mem t.mem
    ioIn := t.ioIn
    ioCtr := t.ioCtr
    ioOut := t.ioOut
    freeCtr := t.freeCtr
    queue := t.queue.take Config.queueBytes
    prefetchPlan := t.prefetchPlan
    inhibitAll := false
    inhibitInt := false
    haltLock := false
    suspended := false
    pfx := Prefixes.none }

end Sys2Proof.Machine
end

