-- ==== Sys2Proof/Machine/Run.lean ====
section
/-! DEFINITION. What a step does around an instruction: the repeat prefixes that are refused, the boundary at which
inputs are sampled and interrupts accepted, standby and reset (R246, R763 to R770, R783 to R787, R808). -/

noncomputable section

namespace Sys2Proof.Machine

/-- The instruction is a prefix byte: it belongs to the instruction that follows (R135). -/
def isPrefix : Instr → Bool
  | .repc | .repnc | .rep | .repne | .buslock | .segOverride _ => true
  | _ => false

/-- A block instruction that compares (R240). -/
def isComparing : Instr → Bool
  | .cmpbk _ | .cmpm _ => true
  | _ => false

/-- A block instruction that does not compare (R240). -/
def isTransferring : Instr → Bool
  | .movbk _ | .ldm _ | .stm _ | .inm _ | .outm _ => true
  | _ => false

/-- The combinations of a repeat prefix and an instruction that the spec defines (R240, R246, D11). Two different repeat
prefixes are refused by the second one's own meaning. -/
def repeatAllowed (r : Option Rep) (i : Instr) : Bool :=
  match r with
  | none => true
  | some .rep | some .repne => isPrefix i || isComparing i || isTransferring i
  | some .repc | some .repnc => isPrefix i || isComparing i

/-- The five forms that hold off NMI, INT and single step at the boundary after them (R765, D53). -/
def opensWindowAll : Instr → Bool
  | .movSregReg16 .. | .movSregMem16 .. | .movReg16Sreg .. | .movMem16Sreg .. | .popSreg _ => true
  | _ => false

/-- The one instruction that holds off INT alone (R765). -/
def opensWindowInt : Instr → Bool
  | .ei => true
  | _ => false

/-- The end of an instruction: a window that it has not opened itself is over (R765, R808), and its prefixes are
forgotten (R56). -/
def State.endInstruction (s : State) (i : Instr) : State :=
  { s with
    inhibitAll := opensWindowAll i && s.inhibitAll
    inhibitInt := opensWindowInt i && s.inhibitInt
    pfx := Prefixes.none }

/-- What is accepted at a boundary, at most one of NMI, INT and single step in this order; reset, which the next step
takes, goes before them, and an inhibit window keeps them out (R763, R765, R770). -/
def State.accept (s : State) (singleStep : Bool) : State :=
  if s.pins.reset then s
  else if s.inhibitAll then s
  else if s.nmiPending then s.takeNmi
  else if s.intAcceptable then s.takeInt
  else if singleStep then s.takeSingleStep
  else s

/-- The boundary after an instruction. A block instruction that has stopped between two elements has sampled the pins
already and takes no single-step break (R768, D51); `brkBefore` is BRK when the instruction started (R770). -/
def State.boundary (s : State) (brkBefore : Bool) : State :=
  if s.suspended then { s with suspended := false }.accept false else s.sample.accept brkBefore

/-- A step in standby (R785, R786): NMI, INT with IE = 1, INT with IE = 0, or nothing. -/
def State.standbyStep (s : State) : State :=
  let t := s.sample
  if t.pins.reset then t
  else if t.nmiPending then t.takeNmi
  else if t.pins.intLevel then
    if t.psw.ie then t.takeInt else { t with halted := false }
  else t

/-- A step while the RESET pin is high (R800, R801). -/
def State.resetStep (s : State) : State := s.hardwareReset.sample

/-- An instruction of `len` bytes is taken from the queue and executed; a prefix ends without a boundary (R135, R765,
R808). -/
def State.run (s : State) (i : Instr) (len : Nat) : Result :=
  if repeatAllowed s.pfx.rep i then
    match exec i (s.issue len) with
    | .next t => .next (if isPrefix i then t else (t.endInstruction i).boundary s.psw.brk)
    | .fault r => .fault r
    | .refused r => .refused r
  else .refused .repeatCombination

/-- The instruction at PC is decoded in the mode that MD names (R139, R155, R808). -/
def State.fetched (s : State) : Decoded := decode s.psw.md s.fetchWindow

/-- An instruction of the emulation mode that is neither CALLN nor RETEM: what the parameter does, if there is one, within
what an 8080 instruction reaches, and the boundary after it (R155, R722, R725). -/
def State.emulated (s : State) (set8080 : Option (State → State)) : Result :=
  match set8080 with
  | none => .refused .unspecified8080
  | some f => .next ((s.after8080 (f s)).boundary s.psw.brk)

/-- One step with a given 8080 set: reset, standby, or the instruction at PC with the boundary after it (R808). A prefix
byte is a step of its own, without a boundary. -/
def stepWith (set8080 : Option (State → State)) (s : State) : Result :=
  if s.pins.reset then .next s.resetStep
  else if s.halted then .next s.standbyStep
  else
    match s.fetched with
    | .ok (i, rest) => s.run i (6 - rest.length)
    | .error .emulationOpcode => s.emulated set8080
    | .error e => .refused (.undecodable e)

/-- Bytes stored in program memory from an offset of PS on. -/
def storeBytes : List Byte → Word → State → State
  | [], _, s => s
  | b :: rest, off, s => storeBytes rest (off + 1) (s.writeByte s.ps off b)

/-- The bytes placed where the next step fetches: at PS:PC, with nothing prefetched, in the mode that decodes them,
and neither reset nor standby in the way. -/
def State.placing (s : State) (md : Bool) (bytes : List Byte) : State :=
  storeBytes bytes s.pc
    { s with
      psw := { s.psw with md := md }
      queue := []
      halted := false
      pins := { s.pins with reset := false } }

end Sys2Proof.Machine

end
end

