-- ==== Sys2Proof/Machine/Step.lean ====
section
/-! DEFINITION. One step of the machine (R808), and the host's way to place an instruction. -/

noncomputable section

namespace Sys2Proof.Machine

/-- One step of the machine, with parameter P7 as it stands (R808). -/
def step (s : State) : Host.Outcome State Fault Refusal := stepWith exec8080 s

/-- The instruction whose bits are `w` stored where the next step fetches, every byte after the first `nbits / 8` being
zero. -/
def State.withFetchWord (s : State) (nbits w : Nat) : State :=
  s.placing (tableNative nbits w) ((tableBytes (nbits / 8) w).take 6)

end Sys2Proof.Machine

end
end

