-- ==== Sys2Proof/Safety.lean ====
section
/-! DEFINITION. What claims about the machine are stated in: the invariant of every state between two steps, what an
instruction leaves alone, the flags of a result as numbers, stack frames, and shifts by a count as one operation. -/

namespace Sys2Proof.Machine

/-! ## Invariant -/

/-- What every state between two steps satisfies: the memory keeps its canonical form, the prefetch queue is no longer
than its depth (R51), nor is the queue noted for POLL, no prefix is held without being counted (R56), and no block instruction is left suspended. -/
structure State.Inv (s : State) : Prop where
  /-- The memory is in its canonical form. -/
  mem : Memory.wf s.mem = true
  /-- The queue holds at most `queue_bytes` bytes. -/
  queue : s.queue.length ≤ Config.queueBytes
  /-- The queue that POLL puts back was one of the machine's. -/
  queueBefore : s.queueBefore.length ≤ Config.queueBytes
  /-- Without a prefix byte there is no prefix. -/
  pfx : s.pfx.count = 0 → s.pfx = Prefixes.none
  /-- Suspension ends within the step. -/
  suspended : s.suspended = false

/-- The machine is between two instructions: no prefix has been read. -/
def State.BetweenInstructions (s : State) : Prop := s.pfx = Prefixes.none

/-- The step has a next state: the model neither refuses the bytes at PC nor the instruction. -/
def State.Proceeds (s : State) : Prop := ∃ t, step s = .next t

/-! ## What stays as it was -/

/-- Every general register but the destination `d` of width `w` holds what it held: for a byte every other byte
register, and the registers without halves; for a word every other word register. -/
def OtherRegsKept (w : Width) (d : Reg) (s t : State) : Prop :=
  match w with
  | .byte =>
    (∀ r, r ≠ d → t.getReg8 r = s.getReg8 r) ∧ t.sp = s.sp ∧ t.bp = s.bp ∧ t.ix = s.ix ∧ t.iy = s.iy
  | .word => ∀ r, r ≠ d → t.getReg16 r = s.getReg16 r

/-- Nothing but general registers differs. -/
def OnlyRegs (s t : State) : Prop :=
  t = { s with aw := t.aw, bw := t.bw, cw := t.cw, dw := t.dw, sp := t.sp, bp := t.bp, ix := t.ix, iy := t.iy }

/-- Nothing but general registers and the PSW differs. -/
def OnlyRegsPsw (s t : State) : Prop :=
  t = { s with
    aw := t.aw, bw := t.bw, cw := t.cw, dw := t.dw, sp := t.sp, bp := t.bp, ix := t.ix, iy := t.iy, psw := t.psw }

/-- Nothing but general registers, the PSW and the count of free values differs. -/
def OnlyRegsPswFree (s t : State) : Prop :=
  t = { s with
    aw := t.aw, bw := t.bw, cw := t.cw, dw := t.dw, sp := t.sp, bp := t.bp, ix := t.ix, iy := t.iy, psw := t.psw
    freeCtr := t.freeCtr }

/-- The four control flags are unchanged. -/
def ControlKept (s t : State) : Prop :=
  t.psw.md = s.psw.md ∧ t.psw.dir = s.psw.dir ∧ t.psw.ie = s.psw.ie ∧ t.psw.brk = s.psw.brk

/-- Every byte of memory outside the `n` bytes from an offset of a segment on reads as before. -/
def MemKeptOutside (n : Nat) (seg off : Word) (s t : State) : Prop :=
  ∀ a, (∀ k, k < n → a ≠ (phys seg (off + BitVec.ofNat 16 k)).toNat) → Memory.read t.mem a = Memory.read s.mem a

/-- Every byte of memory reads as before. -/
def MemKept (s t : State) : Prop := ∀ a, Memory.read t.mem a = Memory.read s.mem a

/-! ## Flags of a result (R17, R18) -/

/-- How many of the low eight bits are ones. -/
def onesOfLowByte {n : Nat} (r : BitVec n) : Nat := ((List.range 8).filter r.getLsbD).length

/-- S, Z and P are those of a result. -/
def SzpOf {n : Nat} (r : BitVec n) (f : Psw) : Prop :=
  f.s = r.msb ∧ f.z = decide (r.toNat = 0) ∧ f.p = decide (onesOfLowByte r % 2 = 0)

/-- V, S, Z, AC and P are those of `r = a + b + c`. -/
def SumFlagsButCy {n : Nat} (a b : BitVec n) (c : Bool) (r : BitVec n) (f : Psw) : Prop :=
  SzpOf r f ∧ f.ac = decide (16 ≤ a.toNat % 16 + b.toNat % 16 + c.toNat) ∧
    f.v = decide (a.msb = b.msb ∧ r.msb ≠ a.msb)

/-- `r` is `a + b + c` modulo 2^n, and the six flags are those of the sum. -/
def IsSum {n : Nat} (a b : BitVec n) (c : Bool) (r : BitVec n) (f : Psw) : Prop :=
  r.toNat = (a.toNat + b.toNat + c.toNat) % 2 ^ n ∧ SumFlagsButCy a b c r f ∧
    f.cy = decide (2 ^ n ≤ a.toNat + b.toNat + c.toNat)

/-- V, S, Z, AC and P are those of `r = a - b - c`. -/
def DifferenceFlagsButCy {n : Nat} (a b : BitVec n) (c : Bool) (r : BitVec n) (f : Psw) : Prop :=
  SzpOf r f ∧ f.ac = decide (a.toNat % 16 < b.toNat % 16 + c.toNat) ∧ f.v = decide (a.msb ≠ b.msb ∧ r.msb ≠ a.msb)

/-- The six flags are those of `a - b - c`. -/
def DifferenceFlags {n : Nat} (a b : BitVec n) (c : Bool) (r : BitVec n) (f : Psw) : Prop :=
  DifferenceFlagsButCy a b c r f ∧ f.cy = decide (a.toNat < b.toNat + c.toNat)

/-- `r` is `a - b - c` modulo 2^n, and the six flags are those of the difference. -/
def IsDifference {n : Nat} (a b : BitVec n) (c : Bool) (r : BitVec n) (f : Psw) : Prop :=
  (r.toNat : Int) = ((a.toNat : Int) - b.toNat - c.toNat) % 2 ^ n ∧ DifferenceFlags a b c r f

/-- V and CY cleared, S, Z and P of the result; AC is not constrained. -/
def LogicFlagsOf {n : Nat} (r : BitVec n) (f : Psw) : Prop := f.v = false ∧ f.cy = false ∧ SzpOf r f

/-! ## Shapes of a completed instruction

Each says that the instruction answers a next state, what that state holds, and that everything else is as it was. -/

/-- The instruction loads the register `d` with the value `v s`; no flag changes. -/
def LoadsReg (i : Instr) (w : Width) (d : Reg) (v : State → BitVec w.bits) : Prop :=
  ∀ s, ∃ t, exec i s = .next t ∧ t.getReg w d = v s ∧ OtherRegsKept w d s t ∧ OnlyRegs s t

/-- The instruction stores the value `v s` at an offset of a segment, both of the state before; no flag and no register
changes. -/
def StoresMem (i : Instr) (w : Width) (seg off : State → Word) (v : State → BitVec w.bits) : Prop :=
  ∀ s, Memory.wf s.mem = true →
    ∃ t, exec i s = .next t ∧ t.readMem w (seg s) (off s) = v s ∧ MemKeptOutside w.bytes (seg s) (off s) s t ∧
      t = { s with mem := t.mem }

/-- The instruction writes the register `d` and flags that satisfy `rel` with the state before and the new value. -/
def PutsReg (i : Instr) (w : Width) (d : Reg) (rel : State → BitVec w.bits → Psw → Prop) : Prop :=
  ∀ s, ∃ t, exec i s = .next t ∧ rel s (t.getReg w d) t.psw ∧ OtherRegsKept w d s t ∧ ControlKept s t ∧
    OnlyRegsPswFree s t

/-- The instruction writes the memory operand `m` and flags that satisfy `rel` with the state before and the new
value. -/
def PutsMem (i : Instr) (w : Width) (m : Mem) (rel : State → BitVec w.bits → Psw → Prop) : Prop :=
  ∀ s, Memory.wf s.mem = true →
    ∃ t, exec i s = .next t ∧ rel s (t.readMem w (s.segOf m) (s.ea m)) t.psw ∧
      MemKeptOutside w.bytes (s.segOf m) (s.ea m) s t ∧ ControlKept s t ∧
      t = { s with mem := t.mem, psw := t.psw, freeCtr := t.freeCtr }

/-- The instruction writes flags that satisfy `rel` with the state before, and nothing else. -/
def PutsFlags (i : Instr) (rel : State → Psw → Prop) : Prop :=
  ∀ s, ∃ t, exec i s = .next t ∧ rel s t.psw ∧ ControlKept s t ∧ t = { s with psw := t.psw, freeCtr := t.freeCtr }

/-- The six flags of `f` are those of `g`. -/
def StatusKept (g f : Psw) : Prop :=
  f.v = g.v ∧ f.s = g.s ∧ f.z = g.z ∧ f.ac = g.ac ∧ f.p = g.p ∧ f.cy = g.cy

/-! ## Stack and interrupts -/

/-- One word is pushed and nothing else changes. -/
def Pushes (i : Instr) (v : State → Word) : Prop :=
  ∀ s, Memory.wf s.mem = true →
    ∃ t, exec i s = .next t ∧ t.sp = s.sp - 2 ∧ t.readWord s.ss (s.sp - 2) = v s ∧
      MemKeptOutside 2 s.ss (s.sp - 2) s t ∧ t = { s with sp := t.sp, mem := t.mem }

/-- The words of the frame of an interrupt lie below SP: the PSW image, PS, PC (R750), and nothing else of memory has
changed. -/
def FramePushed (image : Word) (s t : State) : Prop :=
  t.sp = s.sp - 6 ∧ t.readWord s.ss (s.sp - 2) = image ∧ t.readWord s.ss (s.sp - 4) = s.ps ∧
    t.readWord s.ss (s.sp - 6) = s.pc ∧ MemKeptOutside 6 s.ss (s.sp - 6) s t

/-- Control is at the address that vector `n` holds, at physical addresses 4n to 4n + 3, and the queue is empty
(R741). -/
def AtVector (n : Byte) (t : State) : Prop :=
  t.pc = t.readWord 0 (BitVec.ofNat 16 (4 * n.toNat)) ∧ t.ps = t.readWord 0 (BitVec.ofNat 16 (4 * n.toNat + 2)) ∧
    t.queue = []

/-- The interrupt `n` has been entered from `s` (R750): the frame, IE and BRK cleared, MD set, the vector; nothing else
has changed. -/
def Interrupted (n : Byte) (s t : State) : Prop :=
  FramePushed s.psw.image s t ∧ AtVector n t ∧ t.psw = { s.psw with ie := false, brk := false, md := true } ∧
    t = { s with sp := t.sp, mem := t.mem, psw := t.psw, ps := t.ps, pc := t.pc, queue := t.queue }

/-! ## Shifts and rotates by a count, each as one operation (R522) -/

/-- The value and the carry after `k` steps; for a count of 0 both are as before. -/
def shiftedBy {n : Nat} (op : ShiftOp) (k : Nat) (a : BitVec n) (c : Bool) : BitVec n × Bool :=
  if k = 0 then (a, c)
  else
    match op with
    | .shl => (a <<< k, (a <<< (k - 1)).msb)
    | .shr => (a >>> k, (a >>> (k - 1)).getLsbD 0)
    | .shra => (a.sshiftRight k, (a.sshiftRight (k - 1)).getLsbD 0)
    | .rol => (a.rotateLeft k, (a.rotateLeft k).getLsbD 0)
    | .ror => (a.rotateRight k, (a.rotateRight k).msb)
    | .rolc => let x := (BitVec.cons c a).rotateLeft k; (x.setWidth n, x.msb)
    | .rorc => let x := (BitVec.cons c a).rotateRight k; (x.setWidth n, x.msb)

/-- The flags after a shift or rotate: CY; for a shift S, Z and P of the result, AC not constrained; for a rotate those
four as before. V is stated apart. -/
def ShiftFlagsButV {n : Nat} (op : ShiftOp) (r : BitVec n) (cy : Bool) (g f : Psw) : Prop :=
  f.cy = cy ∧ if isShift op then SzpOf r f else f.s = g.s ∧ f.z = g.z ∧ f.ac = g.ac ∧ f.p = g.p

/-- A form with a count of `k`: the result, and the flags; for a count of 0 CY, S, Z and P are as before, and AC too
for a rotate; V is not constrained (R521). -/
def ShiftsBy {n : Nat} (op : ShiftOp) (k : Nat) (g : Psw) (a r : BitVec n) (f : Psw) : Prop :=
  r = (shiftedBy op k a g.cy).1 ∧
    if k = 0 then
      f.cy = g.cy ∧ f.s = g.s ∧ f.z = g.z ∧ f.p = g.p ∧ (isShift op = false → f.ac = g.ac)
    else ShiftFlagsButV op r (shiftedBy op k a g.cy).2 g f

/-- A form that shifts once: as `ShiftsBy` with 1, and V is the exclusive or that R523 gives, 0 for SHRA. -/
def ShiftsOnce {n : Nat} (op : ShiftOp) (g : Psw) (a r : BitVec n) (f : Psw) : Prop :=
  ShiftsBy op 1 g a r f ∧
    f.v =
      match op with
      | .shl | .rol | .rolc => r.msb ^^ f.cy
      | .shr | .ror | .rorc => r.msb ^^ r.getLsbD (n - 2)
      | .shra => false

/-! ## Ports -/

/-- What the host answers to the `k`-th byte read from now on, of a port (R96, P2). -/
def State.portAnswer (s : State) (k : Nat) (port : Word) : Byte :=
  (s.ioIn[k]?).getD (Config.ioByte (s.ioCtr + k) port)

/-- The operand that an input of width `w` reads: low port first, and the second port wraps (R96). -/
def State.portOperand (s : State) (w : Width) (port : Word) : BitVec w.bits :=
  match w with
  | .byte => s.portAnswer 0 port
  | .word => mkWord (s.portAnswer 1 (port + 1)) (s.portAnswer 0 port)

/-- The byte writes that an output of width `w` makes, the latest first (R96). -/
def portWrites (w : Width) (port : Word) (v : BitVec w.bits) : List (Word × Byte) :=
  match w, v with
  | .byte, v => [(port, v)]
  | .word, v => [(port + 1, hiByte v), (port, loByte v)]

/-! ## Block instructions -/

/-- A pointer after one element: up by the size of the element for DIR = 0, down for DIR = 1 (R248). -/
def State.pointerAfter (s : State) (w : Width) (p : Word) : Word :=
  if s.psw.dir then p - BitVec.ofNat 16 w.bytes else p + BitVec.ofNat 16 w.bytes

/-- `n` elements of a block instruction, each what the instruction without a repeat prefix does, CW counted down after
each. -/
def RunsElements (i : Instr) : Nat → State → State → Prop
  | 0, s, t => t = s
  | n + 1, s, t =>
    ∃ u, exec i { s with pfx := { s.pfx with rep := none } } = .next u ∧
      RunsElements i n { u with cw := u.cw - 1, pfx := s.pfx } t

/-- No input stops a repeated block instruction: none would be accepted between two elements (an INT that is high in a
window left by the instruction before is not), and none will come. -/
def State.Undisturbed (s : State) : Prop :=
  s.pins.reset = false ∧ s.nmiPending = false ∧ s.intAcceptable = false ∧ s.inputs = [] ∧ s.prefetchPlan = []

/-- The condition under which a repeat prefix ends a comparing block instruction after an element (R241). -/
def RepeatEnds (r : Rep) (f : Psw) : Prop :=
  match r with
  | .repc => f.cy = false
  | .repnc => f.cy = true
  | .rep => f.z = false
  | .repne => f.z = true

/-! ## Packed BCD strings -/

/-- The digit `k` of a packed BCD string: the low nibble of a byte holds the lower digit (R330). -/
def bcdNibble (byteAt : Nat → Byte) (k : Nat) : Nat :=
  if k % 2 = 0 then (byteAt (k / 2)).toNat % 16 else (byteAt (k / 2)).toNat / 16

/-- The number that the low `n` digits of a packed BCD string stand for. -/
def bcdNumber (byteAt : Nat → Byte) : Nat → Nat
  | 0 => 0
  | n + 1 => bcdNumber byteAt n + bcdNibble byteAt n * 10 ^ n

/-- The destination string, at DS1:IY (R331). -/
def State.bcdDestAt (s : State) (k : Nat) : Byte := s.readByte s.ds1 (s.iy + BitVec.ofNat 16 k)

/-- The source string, at DS0:IX or the override segment (R331). -/
def State.bcdSourceAt (s : State) (k : Nat) : Byte := s.readByte (s.overridden .ds0) (s.ix + BitVec.ofNat 16 k)

/-- The operands are those that R331 defines: 1 to 254 digits, every nibble of both strings a decimal digit. -/
def State.BcdOperands (s : State) : Prop :=
  1 ≤ s.cl.toNat ∧ s.cl.toNat ≤ 254 ∧
    ∀ k, k < 2 * ((s.cl.toNat + 1) / 2) → bcdNibble s.bcdDestAt k ≤ 9 ∧ bcdNibble s.bcdSourceAt k ≤ 9

/-- No byte of the source string is one that the instruction stores to before it reads it. -/
def State.BcdApart (s : State) : Prop :=
  ∀ j k, j < k → k < (s.cl.toNat + 1) / 2 →
    phys s.ds1 (s.iy + BitVec.ofNat 16 j) ≠ phys (s.overridden .ds0) (s.ix + BitVec.ofNat 16 k)

/-! ## Encodings that no listing assigns (R153) -/

/-- The table of R153 for the first three bytes of an instruction in the native mode; `mode` and `middle` are the fields
of an operand byte. -/
def Unassigned (b0 b1 b2 : Byte) : Prop :=
  let mode (b : Byte) : Nat := b.toNat / 64
  let middle (b : Byte) : Nat := b.toNat / 8 % 8
  b0 ∈ ([0x63, 0xD6, 0xF1] : List Byte) ∨
  b0 = 0x0F ∧ ¬(0x10 ≤ b1 ∧ b1 ≤ 0x1F) ∧
    b1 ∉ ([0x20, 0x22, 0x26, 0x28, 0x2A, 0x31, 0x33, 0x39, 0x3B, 0xFF] : List Byte) ∨
  b0 = 0x0F ∧ 0x10 ≤ b1 ∧ b1 ≤ 0x1F ∧ middle b2 ≠ 0 ∨
  b0 = 0x0F ∧ (b1 = 0x28 ∨ b1 = 0x2A) ∧ middle b2 ≠ 0 ∨
  b0 = 0x0F ∧ b1 ∈ ([0x31, 0x33, 0x39, 0x3B] : List Byte) ∧ mode b2 ≠ 3 ∨
  b0 = 0x0F ∧ (b1 = 0x39 ∨ b1 = 0x3B) ∧ middle b2 ≠ 0 ∨
  (b0 = 0x8C ∨ b0 = 0x8E) ∧ 4 ≤ middle b1 ∨
  b0 = 0x8E ∧ middle b1 % 4 = 1 ∨
  b0 = 0x8F ∧ middle b1 ≠ 0 ∨
  (b0 = 0xC6 ∨ b0 = 0xC7) ∧ middle b1 ≠ 0 ∨
  b0 ∈ ([0xC0, 0xC1, 0xD0, 0xD1, 0xD2, 0xD3] : List Byte) ∧ middle b1 = 6 ∨
  (b0 = 0xD4 ∨ b0 = 0xD5) ∧ b1 ≠ 0x0A ∨
  (b0 = 0xF6 ∨ b0 = 0xF7) ∧ middle b1 = 1 ∨
  b0 = 0xFE ∧ 2 ≤ middle b1 ∨
  b0 = 0xFF ∧ middle b1 = 7 ∨
  b0 ∈ ([0x8D, 0xC4, 0xC5, 0x62] : List Byte) ∧ mode b1 = 3 ∨
  b0 = 0xFF ∧ (middle b1 = 3 ∨ middle b1 = 5) ∧ mode b1 = 3

end Sys2Proof.Machine
end

