-- ==== Sys2Proof/Certificates/Slice0/Obligations.lean ====
section
/-! DEFINITION. The statements for the provers, in the order of the spec's files. A statement about an instruction says
that it answers a next state, what that state holds, and that everything else is as before. The program counter is the
one of the instruction after, which the step has already set (R38). -/

open Sys2Proof Sys2Proof.Machine

/-! ## Encoding and decoding -/

/-- A few words written out from the encodings decode to the instructions they stand for (R139, R140; the bytes are
those of the examples of 40_data_transfer.md to 49_emulation_mode.md). Choices: log entry 19. -/
def Obligations.DecodeReadsWrittenWords : Prop :=
  decode true [0x8D, 0x58, 0xFE] = .ok (.ldea .bl_bw (.disp8 .bw_ix 0xFE), []) ∧
  decode true [0x83, 0xC6, 0x02, 0x90] = .ok (.addRegImm .w83 .dh_ix 0x02, [0x90]) ∧
  decode true [0xC4, 0x3E, 0x10, 0x00] = .ok (.movDs1Reg16Mem32 .bh_iy (.direct 0x0010), []) ∧
  decode true [0x9A, 0x10, 0x00, 0x00, 0x20] = .ok (.callFar 0x0010 0x2000, []) ∧
  decode true [0x0F, 0x39, 0xC1, 0x0C] = .ok (.insReg8Imm4 .cl_cw 0x0C, []) ∧
  decode true [0xD3, 0xD8] = .ok (.rorcRegCl .word .al_aw, []) ∧
  decode true [0xC8, 0x0A, 0x00, 0x03] = .ok (.prepare 0x000A 0x03, []) ∧
  decode false [0xED, 0xED, 0x40] = .ok (.calln 0x40, [])

/-- Decoding the bytes of any well-formed instruction, whatever follows them, gives that instruction and what
follows. Choices: log entries 15, 16, 18 and 19. -/
def Obligations.DecodeOfEncodeIsTheInstruction : Prop :=
  ∀ (i : Instr) (rest : List Byte), i.wf = true → decode i.nativeMode (encode i ++ rest) = .ok (i, rest)

/-- Whatever the bytes, a decoded instruction is well-formed and belongs to the mode it was decoded in, and the
decoder has taken one to six bytes from the front. Choices: log entries 16 and 18. -/
def Obligations.DecodedInstructionsAreWellFormed : Prop :=
  ∀ (md : Bool) (bytes : List Byte) (i : Instr) (rest : List Byte), decode md bytes = .ok (i, rest) →
    i.wf = true ∧ i.nativeMode = md ∧
      ∃ taken, bytes = taken ++ rest ∧ 1 ≤ taken.length ∧ taken.length ≤ 6

/-- In the native mode the decoder refuses exactly the byte patterns of the table of R153, whatever the bytes after
them. Choices: log entry 17. -/
def Obligations.UnassignedPatternsAreRefused : Prop :=
  ∀ b0 b1 b2 b3 b4 b5 : Byte, (∃ e, decode true [b0, b1, b2, b3, b4, b5] = .error e) ↔ Unassigned b0 b1 b2

/-! ## Registers, memory and operands -/

/-- The eight byte registers are the halves of AW, CW, DW and BW (R32, R33): a read takes a half, and a write
changes that half alone. -/
def Obligations.ByteRegistersAreHalves : Prop :=
  ∀ (s : State) (r : Reg) (v : Byte),
    (s.getReg8 .al_aw).toNat = s.aw.toNat % 256 ∧ (s.getReg8 .ah_sp).toNat = s.aw.toNat / 256 ∧
    (s.getReg8 .cl_cw).toNat = s.cw.toNat % 256 ∧ (s.getReg8 .ch_bp).toNat = s.cw.toNat / 256 ∧
    (s.getReg8 .dl_dw).toNat = s.dw.toNat % 256 ∧ (s.getReg8 .dh_ix).toNat = s.dw.toNat / 256 ∧
    (s.getReg8 .bl_bw).toNat = s.bw.toNat % 256 ∧ (s.getReg8 .bh_iy).toNat = s.bw.toNat / 256 ∧
    (s.setReg8 r v).getReg8 r = v ∧ OtherRegsKept .byte r s (s.setReg8 r v) ∧ OnlyRegs s (s.setReg8 r v)

/-- The physical address is segment times 16 plus offset, modulo 2^20 (R83). A word is read and written as two
bytes, the low byte at the offset and the high byte at the next offset, which wraps inside the segment (R86, R87);
what is written is read back, every other byte reads as before, and the memory keeps its form. Choices: log entry
10. -/
def Obligations.AddressesAndWordsInSegments : Prop :=
  (∀ seg off : Word, (phys seg off).toNat = (seg.toNat * 16 + off.toNat) % 2 ^ 20) ∧
  (∀ (s : State) (seg off v : Word), Memory.wf s.mem = true →
     (s.readWord seg off).toNat =
         (s.readByte seg off).toNat + 256 * (s.readByte seg (BitVec.ofNat 16 ((off.toNat + 1) % 2 ^ 16))).toNat ∧
       (s.writeWord seg off v).readWord seg off = v ∧
       ((s.writeWord seg off v).readByte seg off).toNat = v.toNat % 256 ∧
       ((s.writeWord seg off v).readByte seg (BitVec.ofNat 16 ((off.toNat + 1) % 2 ^ 16))).toNat = v.toNat / 256 ∧
       MemKeptOutside 2 seg off s (s.writeWord seg off v) ∧ Memory.wf (s.writeWord seg off v).mem = true)

/-- The effective address is the sum of the registers of the form and the displacement, a byte displacement
sign-extended, modulo 2^16 (R140, R141); the default segment is SS where BP is part of the sum and DS0 elsewhere
(R142); an override replaces it (R143, R144). Choices: log entry 10. -/
def Obligations.EffectiveAddressAndSegment : Prop :=
  ∀ (s : State) (f : AddrForm) (d8 : Byte) (d16 : Word),
    let sum : AddrForm → Nat
      | .bw_ix => s.bw.toNat + s.ix.toNat
      | .bw_iy => s.bw.toNat + s.iy.toNat
      | .bp_ix => s.bp.toNat + s.ix.toNat
      | .bp_iy => s.bp.toNat + s.iy.toNat
      | .ix => s.ix.toNat
      | .iy => s.iy.toNat
      | .bp => s.bp.toNat
      | .bw => s.bw.toNat
    let usesBp := f = .bp_ix ∨ f = .bp_iy ∨ f = .bp
    (s.ea (.ind f)).toNat = sum f % 2 ^ 16 ∧
    ((s.ea (.disp8 f d8)).toNat : Int) = ((sum f : Int) + d8.toInt) % 2 ^ 16 ∧
    (s.ea (.disp16 f d16)).toNat = (sum f + d16.toNat) % 2 ^ 16 ∧
    s.ea (.direct d16) = d16 ∧
    (s.pfx.seg = none →
      s.segOf (.direct d16) = s.ds0 ∧
      ∀ m, m = .ind f ∨ m = .disp8 f d8 ∨ m = .disp16 f d16 →
        (usesBp → s.segOf m = s.ss) ∧ (¬usesBp → s.segOf m = s.ds0)) ∧
    ∀ sr m, s.pfx.seg = some sr → s.segOf m = s.getSreg sr

/-- The image of the PSW has MD, V, DIR, IE, BRK, S, Z, AC, P and CY at bits 15, 11, 10, 9, 8, 7, 6, 4, 2 and 0,
ones at bits 14, 13, 12 and 1 and zeros at bits 5 and 3 (R40), and it is read back as it was. Choices: log entry 31. -/
def Obligations.PswImageHasTheFixedLayout : Prop :=
  ∀ f : Psw,
    f.image.toNat =
        2 ^ 15 * f.md.toNat + 2 ^ 14 + 2 ^ 13 + 2 ^ 12 + 2 ^ 11 * f.v.toNat + 2 ^ 10 * f.dir.toNat +
          2 ^ 9 * f.ie.toNat + 2 ^ 8 * f.brk.toNat + 2 ^ 7 * f.s.toNat + 2 ^ 6 * f.z.toNat + 2 ^ 4 * f.ac.toNat +
          2 ^ 2 * f.p.toNat + 2 + f.cy.toNat ∧
      Psw.ofImage f.image = f

/-! ## Data transfer -/

/-- The instructions that load a register and change no flag: MOV to a register (R201, R203 to R206), LDEA (R216),
TRANS (R217). The instructions that store to memory and change nothing else: MOV to memory (R202, R204, R207).
Choices: log entries 10 and 19. -/
def Obligations.MovesWithoutSegmentRegisters : Prop :=
  (∀ (w : Width) (d r : Reg) (m : Mem) (imm : Word),
     LoadsReg (.movRegReg w d r) w d (fun s => s.getReg w r) ∧
     LoadsReg (.movRegRegAlt w d r) w d (fun s => s.getReg w r) ∧
     LoadsReg (.movRegMem w d m) w d (fun s => s.readOperand w m) ∧
     LoadsReg (.movRegImm w d imm) w d (fun _ => imm.setWidth w.bits) ∧
     LoadsReg (.movRegImmAlt w d imm) w d (fun _ => imm.setWidth w.bits) ∧
     LoadsReg (.movAccDmem w imm) w .al_aw (fun s => s.readMem w (s.overridden .ds0) imm) ∧
     LoadsReg (.ldea d m) .word d (fun s => s.ea m) ∧
     LoadsReg .trans .byte .al_aw (fun s =>
       s.readByte (s.overridden .ds0) (BitVec.ofNat 16 (s.bw.toNat + s.aw.toNat % 256)))) ∧
  (∀ (w : Width) (r : Reg) (m : Mem) (imm : Word),
     StoresMem (.movMemReg w m r) w (fun s => s.segOf m) (fun s => s.ea m) (fun s => s.getReg w r) ∧
     StoresMem (.movMemImm w m imm) w (fun s => s.segOf m) (fun s => s.ea m) (fun _ => imm.setWidth w.bits) ∧
     StoresMem (.movDmemAcc w imm) w (fun s => s.overridden .ds0) (fun _ => imm) (fun s => s.getReg w .al_aw))

/-- MOV to and from a segment register (R208 to R211): the move, and the window that holds off NMI, INT and the
single-step break at the boundary after it (R765); PS is never a destination (D10). MOV DS0,reg16,mem32 and MOV
DS1,reg16,mem32 (R212, R213): the first word to the register, the word at EA + 2 modulo 2^16 to the segment register
(R88). Choices: log entries 10, 17 and 35. -/
def Obligations.MovesOfSegmentRegistersAndPointers : Prop :=
  (∀ (s : State) (r : Reg) (m : Mem) (sr : Sreg),
     (sr ≠ .ps →
       (∃ t, exec (.movSregReg16 sr r) s = .next t ∧ t.getSreg sr = s.getReg16 r ∧
         (∀ x, x ≠ sr → t.getSreg x = s.getSreg x) ∧
         t = { s with ss := t.ss, ds0 := t.ds0, ds1 := t.ds1, inhibitAll := true }) ∧
       ∃ t, exec (.movSregMem16 sr m) s = .next t ∧ t.getSreg sr = s.readWord (s.segOf m) (s.ea m) ∧
         (∀ x, x ≠ sr → t.getSreg x = s.getSreg x) ∧
         t = { s with ss := t.ss, ds0 := t.ds0, ds1 := t.ds1, inhibitAll := true }) ∧
     (∃ t, exec (.movReg16Sreg r sr) s = .next t ∧ t.getReg16 r = s.getSreg sr ∧ OtherRegsKept .word r s t ∧
       OnlyRegs { s with inhibitAll := true } t) ∧
     (Memory.wf s.mem = true →
       ∃ t, exec (.movMem16Sreg m sr) s = .next t ∧ t.readWord (s.segOf m) (s.ea m) = s.getSreg sr ∧
         MemKeptOutside 2 (s.segOf m) (s.ea m) s t ∧ t = { s with mem := t.mem, inhibitAll := true })) ∧
  (∀ (s : State) (r : Reg) (m : Mem),
     (∃ t, exec (.movDs0Reg16Mem32 r m) s = .next t ∧ t.getReg16 r = s.readWord (s.segOf m) (s.ea m) ∧
       t.ds0 = s.readWord (s.segOf m) (BitVec.ofNat 16 ((s.ea m).toNat + 2)) ∧ OtherRegsKept .word r s t ∧
       OnlyRegs { s with ds0 := t.ds0 } t) ∧
     ∃ t, exec (.movDs1Reg16Mem32 r m) s = .next t ∧ t.getReg16 r = s.readWord (s.segOf m) (s.ea m) ∧
       t.ds1 = s.readWord (s.segOf m) (BitVec.ofNat 16 ((s.ea m).toNat + 2)) ∧ OtherRegsKept .word r s t ∧
       OnlyRegs { s with ds1 := t.ds1 } t)

/-- MOV AH,PSW puts S, Z, AC, P and CY in bits 7, 6, 4, 2 and 0 of AH, the other three bits not constrained (R214);
MOV PSW,AH is the byte 9EH, and sets these five flags from these bits and nothing else (R215). -/
def Obligations.MovesOfTheFlagByte : Prop :=
  (∀ rest : List Byte, decode true (0x9E :: rest) = .ok (.movPswAh, rest)) ∧
  ∀ s : State,
    (∃ t, exec .movAhPsw s = .next t ∧
      (t.getReg8 .ah_sp).getLsbD 7 = s.psw.s ∧ (t.getReg8 .ah_sp).getLsbD 6 = s.psw.z ∧
      (t.getReg8 .ah_sp).getLsbD 4 = s.psw.ac ∧ (t.getReg8 .ah_sp).getLsbD 2 = s.psw.p ∧
      (t.getReg8 .ah_sp).getLsbD 0 = s.psw.cy ∧ t.getReg8 .al_aw = s.getReg8 .al_aw ∧
      t = { s with aw := t.aw, freeCtr := t.freeCtr }) ∧
    exec .movPswAh s = .next { s with psw := { s.psw with
      s := s.aw.getLsbD 15, z := s.aw.getLsbD 14, ac := s.aw.getLsbD 12, p := s.aw.getLsbD 10
      cy := s.aw.getLsbD 8 } }

/-- XCH (R218 to R220): each operand holds what the other held, memory read before it is written, and nothing else
changes. Choices: log entries 16 and 38. -/
def Obligations.ExchangesSwapTheOperands : Prop :=
  ∀ (s : State) (w : Width) (d r : Reg) (m : Mem),
    (∃ t, exec (.xchRegReg w d r) s = .next t ∧ t.getReg w d = s.getReg w r ∧ t.getReg w r = s.getReg w d ∧
      (∀ x, x ≠ d → x ≠ r → t.getReg w x = s.getReg w x) ∧ OnlyRegs s t ∧
      (w = .byte → t.sp = s.sp ∧ t.bp = s.bp ∧ t.ix = s.ix ∧ t.iy = s.iy)) ∧
    (Memory.wf s.mem = true →
      ∃ t, exec (.xchMemReg w m r) s = .next t ∧ t.readMem w (s.segOf m) (s.ea m) = s.getReg w r ∧
        t.getReg w r = s.readOperand w m ∧ OtherRegsKept w r s t ∧
        MemKeptOutside w.bytes (s.segOf m) (s.ea m) s t ∧ OnlyRegs { s with mem := t.mem } t) ∧
    ∃ t, exec (.xchAwReg16 r) s = .next t ∧ t.aw = s.getReg16 r ∧ t.getReg16 r = s.aw ∧
      (∀ x, x ≠ .al_aw → x ≠ r → t.getReg16 x = s.getReg16 x) ∧ OnlyRegs s t

/-! ## Addition, subtraction, comparison -/

/-- ADD and ADDC to a register, in every form (R300 to R302, R304, R306, R307, R309, R310, R312, R313, R315): the
sum, with CY for ADDC, modulo 2^n, and the six flags of R17. Choices: log entries 15 and 20. -/
def Obligations.AdditionsToRegisters : Prop :=
  ∀ (w : Width) (d r : Reg) (m : Mem) (sw : SW) (imm : Word),
    let add (w : Width) (b : State → BitVec w.bits) (d : Reg) (s : State) (v : BitVec w.bits) (f : Psw) : Prop :=
      IsSum (s.getReg w d) (b s) false v f
    let addc (w : Width) (b : State → BitVec w.bits) (d : Reg) (s : State) (v : BitVec w.bits) (f : Psw) : Prop :=
      IsSum (s.getReg w d) (b s) s.psw.cy v f
    PutsReg (.addRegReg w d r) w d (add w (fun s => s.getReg w r) d) ∧
    PutsReg (.addRegRegAlt w d r) w d (add w (fun s => s.getReg w r) d) ∧
    PutsReg (.addRegMem w d m) w d (add w (fun s => s.readOperand w m) d) ∧
    PutsReg (.addRegImm sw d imm) sw.width d (add sw.width (fun _ => swValue sw imm) d) ∧
    PutsReg (.addAccImm w imm) w .al_aw (add w (fun _ => imm.setWidth w.bits) .al_aw) ∧
    PutsReg (.addcRegReg w d r) w d (addc w (fun s => s.getReg w r) d) ∧
    PutsReg (.addcRegRegAlt w d r) w d (addc w (fun s => s.getReg w r) d) ∧
    PutsReg (.addcRegMem w d m) w d (addc w (fun s => s.readOperand w m) d) ∧
    PutsReg (.addcRegImm sw d imm) sw.width d (addc sw.width (fun _ => swValue sw imm) d) ∧
    PutsReg (.addcAccImm w imm) w .al_aw (addc w (fun _ => imm.setWidth w.bits) .al_aw)

/-- SUB and SUBC from a register, in every form (R316, R318, R319, R321, R322, R324, R325, R327): the difference,
less CY for SUBC, modulo 2^n, and the six flags of R17. Choices: log entries 15 and 20. -/
def Obligations.SubtractionsFromRegisters : Prop :=
  ∀ (w : Width) (d r : Reg) (m : Mem) (sw : SW) (imm : Word),
    let sub (w : Width) (b : State → BitVec w.bits) (d : Reg) (s : State) (v : BitVec w.bits) (f : Psw) : Prop :=
      IsDifference (s.getReg w d) (b s) false v f
    let subc (w : Width) (b : State → BitVec w.bits) (d : Reg) (s : State) (v : BitVec w.bits) (f : Psw) : Prop :=
      IsDifference (s.getReg w d) (b s) s.psw.cy v f
    PutsReg (.subRegReg w d r) w d (sub w (fun s => s.getReg w r) d) ∧
    PutsReg (.subRegRegAlt w d r) w d (sub w (fun s => s.getReg w r) d) ∧
    PutsReg (.subRegMem w d m) w d (sub w (fun s => s.readOperand w m) d) ∧
    PutsReg (.subRegImm sw d imm) sw.width d (sub sw.width (fun _ => swValue sw imm) d) ∧
    PutsReg (.subAccImm w imm) w .al_aw (sub w (fun _ => imm.setWidth w.bits) .al_aw) ∧
    PutsReg (.subcRegReg w d r) w d (subc w (fun s => s.getReg w r) d) ∧
    PutsReg (.subcRegRegAlt w d r) w d (subc w (fun s => s.getReg w r) d) ∧
    PutsReg (.subcRegMem w d m) w d (subc w (fun s => s.readOperand w m) d) ∧
    PutsReg (.subcRegImm sw d imm) sw.width d (subc sw.width (fun _ => swValue sw imm) d) ∧
    PutsReg (.subcAccImm w imm) w .al_aw (subc w (fun _ => imm.setWidth w.bits) .al_aw)

/-- ADD, ADDC, SUB and SUBC with a memory destination (R303, R305, R308, R311, R314, R317, R320, R323, R326): read
and written at the same address. Choices: log entries 15 and 20. -/
def Obligations.AdditionsAndSubtractionsInMemory : Prop :=
  ∀ (w : Width) (r : Reg) (m : Mem) (sw : SW) (imm : Word),
    let sum (w : Width) (b : State → BitVec w.bits) (c : State → Bool) (s : State) (v : BitVec w.bits) (f : Psw) : Prop :=
      IsSum (s.readOperand w m) (b s) (c s) v f
    let diff (w : Width) (b : State → BitVec w.bits) (c : State → Bool) (s : State) (v : BitVec w.bits) (f : Psw) :
        Prop := IsDifference (s.readOperand w m) (b s) (c s) v f
    PutsMem (.addMemReg w m r) w m (sum w (fun s => s.getReg w r) fun _ => false) ∧
    PutsMem (.addMemImm sw m imm) sw.width m (sum sw.width (fun _ => swValue sw imm) fun _ => false) ∧
    PutsMem (.addcMemReg w m r) w m (sum w (fun s => s.getReg w r) fun s => s.psw.cy) ∧
    PutsMem (.addcMemImm sw m imm) sw.width m (sum sw.width (fun _ => swValue sw imm) fun s => s.psw.cy) ∧
    PutsMem (.subMemReg w m r) w m (diff w (fun s => s.getReg w r) fun _ => false) ∧
    PutsMem (.subMemImm sw m imm) sw.width m (diff sw.width (fun _ => swValue sw imm) fun _ => false) ∧
    PutsMem (.subcMemReg w m r) w m (diff w (fun s => s.getReg w r) fun s => s.psw.cy) ∧
    PutsMem (.subcMemImm sw m imm) sw.width m (diff sw.width (fun _ => swValue sw imm) fun s => s.psw.cy)

/-- CMP in every form (R420 to R426): the six flags of the difference, and nothing is stored. TEST in every form
(R431, R433 to R437): the flags of the conjunction, which is not stored. Choices: log entries 15, 20 and 21. -/
def Obligations.ComparisonsAndTestsSetFlagsAlone : Prop :=
  (∀ (w : Width) (d r : Reg) (m : Mem) (sw : SW) (imm : Word),
     let cmp (w : Width) (a b : State → BitVec w.bits) (s : State) (f : Psw) : Prop :=
       DifferenceFlags (a s) (b s) false (a s - b s) f
     PutsFlags (.cmpRegReg w d r) (cmp w (fun s => s.getReg w d) fun s => s.getReg w r) ∧
     PutsFlags (.cmpRegRegAlt w d r) (cmp w (fun s => s.getReg w d) fun s => s.getReg w r) ∧
     PutsFlags (.cmpMemReg w m r) (cmp w (fun s => s.readOperand w m) fun s => s.getReg w r) ∧
     PutsFlags (.cmpRegMem w r m) (cmp w (fun s => s.getReg w r) fun s => s.readOperand w m) ∧
     PutsFlags (.cmpRegImm sw r imm) (cmp sw.width (fun s => s.getReg sw.width r) fun _ => swValue sw imm) ∧
     PutsFlags (.cmpMemImm sw m imm) (cmp sw.width (fun s => s.readOperand sw.width m) fun _ => swValue sw imm) ∧
     PutsFlags (.cmpAccImm w imm) (cmp w (fun s => s.getReg w .al_aw) fun _ => imm.setWidth w.bits)) ∧
  (∀ (w : Width) (d r : Reg) (m : Mem) (imm : Word),
     let test (a b : State → BitVec w.bits) (s : State) (f : Psw) : Prop := LogicFlagsOf (a s &&& b s) f
     PutsFlags (.testRegReg w d r) (test (fun s => s.getReg w d) fun s => s.getReg w r) ∧
     PutsFlags (.testMemReg w m r) (test (fun s => s.readOperand w m) fun s => s.getReg w r) ∧
     PutsFlags (.testRegImm w r imm) (test (fun s => s.getReg w r) fun _ => imm.setWidth w.bits) ∧
     PutsFlags (.testMemImm w m imm) (test (fun s => s.readOperand w m) fun _ => imm.setWidth w.bits) ∧
     PutsFlags (.testAccImm w imm) (test (fun s => s.getReg w .al_aw) fun _ => imm.setWidth w.bits))

/-- After CMP the conditional branches decide what their listings say (R653 to R658, R663 to R666): lower, not
lower, equal, not equal, not higher and higher of unsigned numbers, less, greater or equal, less or equal and
greater of signed ones. Choices: log entry 20. -/
def Obligations.BranchesAfterCompareDecideTheOrder : Prop :=
  ∀ (s t : State) (w : Width) (d r : Reg) (disp : Byte), exec (.cmpRegReg w d r) s = .next t →
    let a := s.getReg w d
    let b := s.getReg w r
    let taken : State := { t with pc := t.pc + sext16 disp, queue := [] }
    exec (.bc disp) t = .next (if a.toNat < b.toNat then taken else t) ∧
    exec (.bnc disp) t = .next (if b.toNat ≤ a.toNat then taken else t) ∧
    exec (.be disp) t = .next (if a = b then taken else t) ∧
    exec (.bne disp) t = .next (if a ≠ b then taken else t) ∧
    exec (.bnh disp) t = .next (if a.toNat ≤ b.toNat then taken else t) ∧
    exec (.bh disp) t = .next (if b.toNat < a.toNat then taken else t) ∧
    exec (.blt disp) t = .next (if a.toInt < b.toInt then taken else t) ∧
    exec (.bge disp) t = .next (if b.toInt ≤ a.toInt then taken else t) ∧
    exec (.ble disp) t = .next (if a.toInt ≤ b.toInt then taken else t) ∧
    exec (.bgt disp) t = .next (if b.toInt < a.toInt then taken else t)

/-! ## Packed BCD -/

/-- ADD4S and SUB4S for the operands R331 defines, with strings that do not feed back into each other (R330 to
R333): CL digits of the sum or difference of the two strings at the destination; Z and CY are those of the whole
bytes, so for an odd CL the top nibbles take part in them, and the top nibble that is stored is not constrained
(U4). V, S, AC and P are not constrained. Choices: log entry 23. -/
def Obligations.BcdStringsAddAndSubtract : Prop :=
  ∀ s : State, Memory.wf s.mem = true → s.BcdOperands → s.BcdApart →
    let n := s.cl.toNat
    let bytes := (n + 1) / 2
    let dst := bcdNumber s.bcdDestAt (2 * bytes)
    let src := bcdNumber s.bcdSourceAt (2 * bytes)
    (∃ t, exec .add4s s = .next t ∧ bcdNumber t.bcdDestAt n = (dst + src) % 10 ^ n ∧
      (∀ k, k < n → bcdNibble t.bcdDestAt k ≤ 9) ∧
      t.psw.z = decide ((dst + src) % 10 ^ (2 * bytes) = 0) ∧ t.psw.cy = decide (10 ^ (2 * bytes) ≤ dst + src) ∧
      MemKeptOutside bytes s.ds1 s.iy s t ∧ ControlKept s t ∧
      t = { s with mem := t.mem, psw := t.psw, freeCtr := t.freeCtr }) ∧
    ∃ t, exec .sub4s s = .next t ∧ (bcdNumber t.bcdDestAt n : Int) = ((dst : Int) - src) % 10 ^ n ∧
      (∀ k, k < n → bcdNibble t.bcdDestAt k ≤ 9) ∧
      t.psw.z = decide (dst = src) ∧ t.psw.cy = decide (dst < src) ∧
      MemKeptOutside bytes s.ds1 s.iy s t ∧ ControlKept s t ∧
      t = { s with mem := t.mem, psw := t.psw, freeCtr := t.freeCtr }

/-- CMP4S for the operands R331 defines compares the two strings and stores nothing (R331, R334). Whatever the
operands, ADD4S, SUB4S and CMP4S complete, and they change no more than the destination string (CMP4S: no memory)
and the six status flags (R331, D38). Choices: log entry 23. -/
def Obligations.BcdStringsCompareAndChangeNoMore : Prop :=
  (∀ s : State, s.BcdOperands →
     let bytes := (s.cl.toNat + 1) / 2
     let dst := bcdNumber s.bcdDestAt (2 * bytes)
     let src := bcdNumber s.bcdSourceAt (2 * bytes)
     ∃ t, exec .cmp4s s = .next t ∧ t.psw.z = decide (dst = src) ∧ t.psw.cy = decide (dst < src) ∧ ControlKept s t ∧
       t = { s with psw := t.psw, freeCtr := t.freeCtr }) ∧
  (∀ (s : State) (i : Instr), i = .add4s ∨ i = .sub4s ∨ i = .cmp4s →
     ∃ t, exec i s = .next t ∧ MemKeptOutside ((s.cl.toNat + 1) / 2) s.ds1 s.iy s t ∧ ControlKept s t ∧
       (i = .cmp4s → t.mem = s.mem) ∧ t = { s with mem := t.mem, psw := t.psw, freeCtr := t.freeCtr })

/-- ROL4 and ROR4 (R340 to R344): the three digits of the operand and the low half of AL rotate; the high half of AL
is not constrained (U9), and with AL as the operand AL is not constrained (U5). No flag changes. Choices: log entry
24. -/
def Obligations.NibbleRotations : Prop :=
  ∀ (s : State) (r : Reg) (m : Mem),
    (r ≠ .al_aw →
      (∃ t, exec (.rol4Reg8 r) s = .next t ∧
        (t.getReg8 r).toNat = (s.getReg8 r).toNat % 16 * 16 + s.aw.toNat % 16 ∧
        t.aw.toNat % 16 = (s.getReg8 r).toNat / 16 ∧
        (∀ x, x ≠ r → x ≠ .al_aw → t.getReg8 x = s.getReg8 x) ∧
        t = { s with aw := t.aw, bw := t.bw, cw := t.cw, dw := t.dw, freeCtr := t.freeCtr }) ∧
      ∃ t, exec (.ror4Reg8 r) s = .next t ∧
        (t.getReg8 r).toNat = s.aw.toNat % 16 * 16 + (s.getReg8 r).toNat / 16 ∧
        t.aw.toNat % 16 = (s.getReg8 r).toNat % 16 ∧
        (∀ x, x ≠ r → x ≠ .al_aw → t.getReg8 x = s.getReg8 x) ∧
        t = { s with aw := t.aw, bw := t.bw, cw := t.cw, dw := t.dw, freeCtr := t.freeCtr }) ∧
    (∀ i, i = .rol4Reg8 .al_aw ∨ i = .ror4Reg8 .al_aw →
      ∃ t, exec i s = .next t ∧ t.getReg8 .ah_sp = s.getReg8 .ah_sp ∧
        t = { s with aw := t.aw, freeCtr := t.freeCtr }) ∧
    (Memory.wf s.mem = true →
      (∃ t, exec (.rol4Mem8 m) s = .next t ∧
        (t.readByte (s.segOf m) (s.ea m)).toNat =
          (s.readByte (s.segOf m) (s.ea m)).toNat % 16 * 16 + s.aw.toNat % 16 ∧
        t.aw.toNat % 16 = (s.readByte (s.segOf m) (s.ea m)).toNat / 16 ∧
        t.getReg8 .ah_sp = s.getReg8 .ah_sp ∧ MemKeptOutside 1 (s.segOf m) (s.ea m) s t ∧
        t = { s with aw := t.aw, mem := t.mem, freeCtr := t.freeCtr }) ∧
      ∃ t, exec (.ror4Mem8 m) s = .next t ∧
        (t.readByte (s.segOf m) (s.ea m)).toNat =
          s.aw.toNat % 16 * 16 + (s.readByte (s.segOf m) (s.ea m)).toNat / 16 ∧
        t.aw.toNat % 16 = (s.readByte (s.segOf m) (s.ea m)).toNat % 16 ∧
        t.getReg8 .ah_sp = s.getReg8 .ah_sp ∧ MemKeptOutside 1 (s.segOf m) (s.ea m) s t ∧
        t = { s with aw := t.aw, mem := t.mem, freeCtr := t.freeCtr })

/-! ## INC, DEC, multiplication, division, adjustment, conversion -/

/-- INC and DEC in every form (R350 to R356): the result modulo 2^n, V, S, Z, AC and P as for an addition or
subtraction of 1, and CY as before. Choices: log entry 20. -/
def Obligations.IncrementAndDecrementKeepCarry : Prop :=
  ∀ (w : Width) (r : Reg) (m : Mem),
    let inc (w : Width) (a : State → BitVec w.bits) (s : State) (v : BitVec w.bits) (f : Psw) : Prop :=
      v.toNat = ((a s).toNat + 1) % 2 ^ w.bits ∧ SumFlagsButCy (a s) 1 false v f ∧ f.cy = s.psw.cy
    let dec (w : Width) (a : State → BitVec w.bits) (s : State) (v : BitVec w.bits) (f : Psw) : Prop :=
      (v.toNat : Int) = ((a s).toNat - 1 : Int) % 2 ^ w.bits ∧ DifferenceFlagsButCy (a s) 1 false v f ∧
        f.cy = s.psw.cy
    PutsReg (.incReg8 r) .byte r (inc .byte fun s => s.getReg8 r) ∧
    PutsReg (.incReg16 r) .word r (inc .word fun s => s.getReg16 r) ∧
    PutsReg (.incReg16Alt r) .word r (inc .word fun s => s.getReg16 r) ∧
    PutsMem (.incMem w m) w m (inc w fun s => s.readOperand w m) ∧
    PutsReg (.decReg8 r) .byte r (dec .byte fun s => s.getReg8 r) ∧
    PutsReg (.decReg16 r) .word r (dec .word fun s => s.getReg16 r) ∧
    PutsReg (.decReg16Alt r) .word r (dec .word fun s => s.getReg16 r) ∧
    PutsMem (.decMem w m) w m (dec w fun s => s.readOperand w m)

/-- MULU and MUL of an accumulator (R360 to R368): the whole product in AW, or in DW:AW, and V = CY = 1 where its
upper half is significant. MUL with an immediate (R369 to R373): the low word of the signed product in the
destination register, V = CY = 1 where the product is no signed 16-bit value. S, Z, AC and P are not constrained.
Choices: log entries 21 and 28. -/
def Obligations.Multiplications : Prop :=
  (∀ (s : State) (r : Reg) (m : Mem),
     let u8 (i : Instr) (d : Byte) : Prop := ∃ t, exec i s = .next t ∧
       t.aw.toNat = s.aw.toNat % 256 * d.toNat ∧ t.psw.cy = decide (256 ≤ s.aw.toNat % 256 * d.toNat) ∧
       t.psw.v = t.psw.cy ∧ ControlKept s t ∧ t = { s with aw := t.aw, psw := t.psw, freeCtr := t.freeCtr }
     let u16 (i : Instr) (d : Word) : Prop := ∃ t, exec i s = .next t ∧
       t.dw.toNat * 65536 + t.aw.toNat = s.aw.toNat * d.toNat ∧
       t.psw.cy = decide (65536 ≤ s.aw.toNat * d.toNat) ∧ t.psw.v = t.psw.cy ∧ ControlKept s t ∧
       t = { s with aw := t.aw, dw := t.dw, psw := t.psw, freeCtr := t.freeCtr }
     let s8 (i : Instr) (d : Byte) : Prop := ∃ t, exec i s = .next t ∧
       t.aw.toInt = (s.getReg8 .al_aw).toInt * d.toInt ∧
       t.psw.cy = decide (t.aw.toInt < -128 ∨ 127 < t.aw.toInt) ∧
       t.psw.v = t.psw.cy ∧ ControlKept s t ∧ t = { s with aw := t.aw, psw := t.psw, freeCtr := t.freeCtr }
     let s16 (i : Instr) (d : Word) : Prop := ∃ t, exec i s = .next t ∧
       t.dw.toInt * 65536 + t.aw.toNat = s.aw.toInt * d.toInt ∧
       t.psw.cy = decide (s.aw.toInt * d.toInt < -32768 ∨ 32767 < s.aw.toInt * d.toInt) ∧ t.psw.v = t.psw.cy ∧
       ControlKept s t ∧ t = { s with aw := t.aw, dw := t.dw, psw := t.psw, freeCtr := t.freeCtr }
     u8 (.muluReg8 r) (s.getReg8 r) ∧ u8 (.muluMem8 m) (s.readOperand .byte m) ∧
     u16 (.muluReg16 r) (s.getReg16 r) ∧ u16 (.muluMem16 m) (s.readOperand .word m) ∧
     s8 (.mulReg8 r) (s.getReg8 r) ∧ s8 (.mulMem8 m) (s.readOperand .byte m) ∧
     s16 (.mulReg16 r) (s.getReg16 r) ∧ s16 (.mulMem16 m) (s.readOperand .word m)) ∧
  (∀ (d r : Reg) (m : Mem) (i : Byte) (imm : Word),
     let product (a : State → Word) (b : Int) (s : State) (v : BitVec Width.word.bits) (f : Psw) : Prop :=
       (v.toNat : Int) = (a s).toInt * b % 65536 ∧
         f.cy = decide ((a s).toInt * b < -32768 ∨ 32767 < (a s).toInt * b) ∧ f.v = f.cy
     PutsReg (.mulReg16Reg16Imm8 d r i) .word d (product (fun s => s.getReg16 r) i.toInt) ∧
     PutsReg (.mulReg16Mem16Imm8 d m i) .word d (product (fun s => s.readWord (s.segOf m) (s.ea m)) i.toInt) ∧
     PutsReg (.mulReg16Reg16Imm16 d r imm) .word d (product (fun s => s.getReg16 r) imm.toInt) ∧
     PutsReg (.mulReg16Mem16Imm16 d m imm) .word d (product (fun s => s.readWord (s.segOf m) (s.ea m)) imm.toInt))

/-- DIVU and DIV where the quotient fits (R380 to R389): quotient, truncated toward zero, and remainder in AL and
AH, or in AW and DW; the six flags are not constrained. A signed quotient fits from -127 to 127, or -32767 to 32767.
Choices: log entries 21 and 26. -/
def Obligations.DivisionsGiveQuotientAndRemainder : Prop :=
  ∀ (s : State) (r : Reg) (m : Mem),
    let dwaw : BitVec 32 := s.dw ++ s.aw
    let u8 (i : Instr) (d : Byte) : Prop := d ≠ 0 → s.aw.toNat / d.toNat ≤ 0xFF →
      ∃ t, exec i s = .next t ∧ (t.getReg8 .al_aw).toNat = s.aw.toNat / d.toNat ∧
        (t.getReg8 .ah_sp).toNat = s.aw.toNat % d.toNat ∧ ControlKept s t ∧
        t = { s with aw := t.aw, psw := t.psw, freeCtr := t.freeCtr }
    let u16 (i : Instr) (d : Word) : Prop := d ≠ 0 → dwaw.toNat / d.toNat ≤ 0xFFFF →
      ∃ t, exec i s = .next t ∧ t.aw.toNat = dwaw.toNat / d.toNat ∧ t.dw.toNat = dwaw.toNat % d.toNat ∧
        ControlKept s t ∧ t = { s with aw := t.aw, dw := t.dw, psw := t.psw, freeCtr := t.freeCtr }
    let s8 (i : Instr) (d : Byte) : Prop :=
      d ≠ 0 → -127 ≤ s.aw.toInt.tdiv d.toInt → s.aw.toInt.tdiv d.toInt ≤ 127 →
      ∃ t, exec i s = .next t ∧ (t.getReg8 .al_aw).toInt = s.aw.toInt.tdiv d.toInt ∧
        (t.getReg8 .ah_sp).toInt = s.aw.toInt.tmod d.toInt ∧ ControlKept s t ∧
        t = { s with aw := t.aw, psw := t.psw, freeCtr := t.freeCtr }
    let s16 (i : Instr) (d : Word) : Prop :=
      d ≠ 0 → -32767 ≤ dwaw.toInt.tdiv d.toInt → dwaw.toInt.tdiv d.toInt ≤ 32767 →
      ∃ t, exec i s = .next t ∧ t.aw.toInt = dwaw.toInt.tdiv d.toInt ∧ t.dw.toInt = dwaw.toInt.tmod d.toInt ∧
        ControlKept s t ∧ t = { s with aw := t.aw, dw := t.dw, psw := t.psw, freeCtr := t.freeCtr }
    u8 (.divuReg8 r) (s.getReg8 r) ∧ u8 (.divuMem8 m) (s.readOperand .byte m) ∧
    u16 (.divuReg16 r) (s.getReg16 r) ∧ u16 (.divuMem16 m) (s.readOperand .word m) ∧
    s8 (.divReg8 r) (s.getReg8 r) ∧ s8 (.divMem8 m) (s.readOperand .byte m) ∧
    s16 (.divReg16 r) (s.getReg16 r) ∧ s16 (.divMem16 m) (s.readOperand .word m)

/-- DIVU and DIV by zero or with a quotient that does not fit enter vector 0 (R380, R381, R755): the frame holds the
PC of the instruction after and an image with the control flags as they were; the quotient and remainder registers
and the six status flags of the image are not constrained. Choices: log entries 26 and 27. -/
def Obligations.DivideErrorEntersVectorZero : Prop :=
  ∀ (s : State) (r : Reg) (m : Mem), Memory.wf s.mem = true →
    let dwaw : BitVec 32 := s.dw ++ s.aw
    let error (i : Instr) (word : Bool) : Prop := ∃ t image, exec i s = .next t ∧ FramePushed image s t ∧
      (Psw.ofImage image).md = s.psw.md ∧ (Psw.ofImage image).dir = s.psw.dir ∧ (Psw.ofImage image).ie = s.psw.ie ∧
      (Psw.ofImage image).brk = s.psw.brk ∧ AtVector 0 t ∧ t.psw.md = true ∧ t.psw.dir = s.psw.dir ∧
      t.psw.ie = false ∧ t.psw.brk = false ∧ (word = false → t.dw = s.dw) ∧
      t = { s with
        aw := t.aw, dw := t.dw, sp := t.sp, ps := t.ps, pc := t.pc, psw := t.psw, queue := t.queue, mem := t.mem
        freeCtr := t.freeCtr }
    let u8 (i : Instr) (d : Byte) : Prop := d = 0 ∨ 0xFF < s.aw.toNat / d.toNat → error i false
    let u16 (i : Instr) (d : Word) : Prop := d = 0 ∨ 0xFFFF < dwaw.toNat / d.toNat → error i true
    let s8 (i : Instr) (d : Byte) : Prop :=
      d = 0 ∨ s.aw.toInt.tdiv d.toInt < -127 ∨ 127 < s.aw.toInt.tdiv d.toInt → error i false
    let s16 (i : Instr) (d : Word) : Prop :=
      d = 0 ∨ dwaw.toInt.tdiv d.toInt < -32767 ∨ 32767 < dwaw.toInt.tdiv d.toInt → error i true
    u8 (.divuReg8 r) (s.getReg8 r) ∧ u8 (.divuMem8 m) (s.readOperand .byte m) ∧
    u16 (.divuReg16 r) (s.getReg16 r) ∧ u16 (.divuMem16 m) (s.readOperand .word m) ∧
    s8 (.divReg8 r) (s.getReg8 r) ∧ s8 (.divMem8 m) (s.readOperand .byte m) ∧
    s16 (.divReg16 r) (s.getReg16 r) ∧ s16 (.divMem16 m) (s.readOperand .word m)

/-- ADJBA and ADJBS (R390, R391, R393): where the low digit of AL is above 9 or AC is set, AL is adjusted by 6, AH
by 1 and AC = CY = 1, else AC = CY = 0; AL keeps its low digit alone; V, S, Z and P are not constrained. ADJ4A and
ADJ4S (R390, R392, R394): AL is adjusted by 6 where its low digit is above 9 or AC is set, then by 60H where the
byte so far is above 9FH or there is a carry; AH is kept, S, Z and P are those of AL, V is not constrained. CVTBD
and CVTDB (R400, R401): AH and AL the quotient and remainder of AL by 10, and AL the number that AH and AL hold as
digits; AH keeps nothing after CVTDB; S, Z and P are those of AL, V, AC and CY are not constrained. Choices: log
entries 21 and 28. -/
def Obligations.DecimalAdjustments : Prop :=
  (∀ s : State,
     let al := s.aw.toNat % 256
     let ah := s.aw.toNat / 256
     let low := 9 < al % 16 ∨ s.psw.ac = true
     (∃ t, exec .adjba s = .next t ∧
       (low → t.aw.toNat = (ah + 1) % 256 * 256 + (al + 6) % 16 ∧ t.psw.ac = true ∧ t.psw.cy = true) ∧
       (¬low → t.aw.toNat = ah * 256 + al % 16 ∧ t.psw.ac = false ∧ t.psw.cy = false) ∧ ControlKept s t ∧
       t = { s with aw := t.aw, psw := t.psw, freeCtr := t.freeCtr }) ∧
     ∃ t, exec .adjbs s = .next t ∧
       (low → t.aw.toNat = (ah + 255) % 256 * 256 + (al + 250) % 16 ∧ t.psw.ac = true ∧ t.psw.cy = true) ∧
       (¬low → t.aw.toNat = ah * 256 + al % 16 ∧ t.psw.ac = false ∧ t.psw.cy = false) ∧ ControlKept s t ∧
       t = { s with aw := t.aw, psw := t.psw, freeCtr := t.freeCtr }) ∧
  (∀ s : State,
     let al := s.aw.toNat % 256
     let low := decide (9 < al % 16) || s.psw.ac
     let up1 := if low then al + 6 else al
     let upCy := s.psw.cy || decide (256 ≤ up1)
     let upHigh := decide (0x9F < up1 % 256) || upCy
     let dn1 := if low then al + 250 else al + 256
     let dnCy := s.psw.cy || decide (dn1 < 256)
     let dnHigh := decide (0x9F < dn1 % 256) || dnCy
     (∃ t, exec .adj4a s = .next t ∧
       t.aw.toNat = s.aw.toNat / 256 * 256 + (if upHigh then up1 + 0x60 else up1) % 256 ∧ t.psw.ac = low ∧
       t.psw.cy = upHigh ∧ SzpOf (t.getReg8 .al_aw) t.psw ∧ ControlKept s t ∧
       t = { s with aw := t.aw, psw := t.psw, freeCtr := t.freeCtr }) ∧
     ∃ t, exec .adj4s s = .next t ∧
       t.aw.toNat = s.aw.toNat / 256 * 256 + (if dnHigh then dn1 + 0xA0 else dn1) % 256 ∧ t.psw.ac = low ∧
       t.psw.cy = dnHigh ∧ SzpOf (t.getReg8 .al_aw) t.psw ∧ ControlKept s t ∧
       t = { s with aw := t.aw, psw := t.psw, freeCtr := t.freeCtr }) ∧
  (∀ s : State,
     let al := s.aw.toNat % 256
     (∃ t, exec .cvtbd s = .next t ∧ t.aw.toNat = al / 10 * 256 + al % 10 ∧ SzpOf (t.getReg8 .al_aw) t.psw ∧
       ControlKept s t ∧ t = { s with aw := t.aw, psw := t.psw, freeCtr := t.freeCtr }) ∧
     ∃ t, exec .cvtdb s = .next t ∧ t.aw.toNat = (s.aw.toNat / 256 * 10 + al) % 256 ∧
       SzpOf (t.getReg8 .al_aw) t.psw ∧ ControlKept s t ∧
       t = { s with aw := t.aw, psw := t.psw, freeCtr := t.freeCtr })

/-- ADD of two packed BCD bytes followed by ADJ4A gives the two decimal digits of the sum in AL and the carry out of
them in CY (R300, R392). Choices: log entries 20 and 28. -/
def Obligations.AddThenAdjustIsDecimal : Prop :=
  ∀ (s t u : State) (r : Reg), r ≠ .al_aw →
    (s.getReg8 .al_aw).toNat % 16 ≤ 9 → (s.getReg8 .al_aw).toNat / 16 ≤ 9 →
    (s.getReg8 r).toNat % 16 ≤ 9 → (s.getReg8 r).toNat / 16 ≤ 9 →
    exec (.addRegReg .byte .al_aw r) s = .next t → exec .adj4a t = .next u →
    let decimal (b : Byte) : Nat := b.toNat / 16 * 10 + b.toNat % 16
    decimal (u.getReg8 .al_aw) = (decimal (s.getReg8 .al_aw) + decimal (s.getReg8 r)) % 100 ∧
      u.psw.cy = decide (100 ≤ decimal (s.getReg8 .al_aw) + decimal (s.getReg8 r)) ∧
      (u.getReg8 .al_aw).toNat % 16 ≤ 9 ∧ (u.getReg8 .al_aw).toNat / 16 ≤ 9

/-- CVTBW, the byte 98H, extends the sign of AL to AW (R402); CVTWL extends the sign of AW to DW. -/
def Obligations.Conversions : Prop :=
  (∀ rest : List Byte, decode true (0x98 :: rest) = .ok (.cvtbw, rest)) ∧
  ∀ s : State,
    (∃ t, exec .cvtbw s = .next t ∧ t.getReg8 .al_aw = s.getReg8 .al_aw ∧
      t.getReg8 .ah_sp = (if (s.getReg8 .al_aw).toNat < 0x80 then 0x00 else 0xFF) ∧
      t.aw.toInt = (s.getReg8 .al_aw).toInt ∧ t = { s with aw := t.aw }) ∧
    ∃ t, exec .cvtwl s = .next t ∧ t.dw = (if s.aw.toNat < 0x8000 then 0x0000 else 0xFFFF) ∧
      t.dw.toInt * 65536 + s.aw.toNat = s.aw.toInt ∧ t = { s with dw := t.dw }

/-! ## Logical operations and bits -/

/-- AND, OR and XOR in every form, 82H and 83H among them, with a register destination and with a memory destination
(R431, R432, R438 to R455): bit by bit, V = CY = 0, S, Z and P of the result, AC not constrained. Choices: log
entries 15, 20 and 21. -/
def Obligations.LogicalOperations : Prop :=
  (∀ (w : Width) (d r : Reg) (m : Mem) (imm : Word) (i : Byte),
     let bitwise (op : Bool → Bool → Bool) (w : Width) (d : Reg) (b : State → BitVec w.bits) (s : State)
         (v : BitVec w.bits) (f : Psw) : Prop :=
       (∀ k, k < w.bits → v.getLsbD k = op ((s.getReg w d).getLsbD k) ((b s).getLsbD k)) ∧ LogicFlagsOf v f
     let forms (op : Bool → Bool → Bool) (regReg regRegAlt regMem regImm regImmAlt accImm : Instr) : Prop :=
       PutsReg regReg w d (bitwise op w d fun s => s.getReg w r) ∧
       PutsReg regRegAlt w d (bitwise op w d fun s => s.getReg w r) ∧
       PutsReg regMem w d (bitwise op w d fun s => s.readOperand w m) ∧
       PutsReg regImm w d (bitwise op w d fun _ => imm.setWidth w.bits) ∧
       PutsReg regImmAlt w d (bitwise op w d fun _ => i.signExtend w.bits) ∧
       PutsReg accImm w .al_aw (bitwise op w .al_aw fun _ => imm.setWidth w.bits)
     forms (· && ·) (.andRegReg w d r) (.andRegRegAlt w d r) (.andRegMem w d m) (.andRegImm w d imm)
       (.andRegImmAlt w d i) (.andAccImm w imm) ∧
     forms (· || ·) (.orRegReg w d r) (.orRegRegAlt w d r) (.orRegMem w d m) (.orRegImm w d imm)
       (.orRegImmAlt w d i) (.orAccImm w imm) ∧
     forms (· ^^ ·) (.xorRegReg w d r) (.xorRegRegAlt w d r) (.xorRegMem w d m) (.xorRegImm w d imm)
       (.xorRegImmAlt w d i) (.xorAccImm w imm)) ∧
  (∀ (w : Width) (r : Reg) (m : Mem) (imm : Word) (i : Byte),
     let bitwise (op : Bool → Bool → Bool) (b : State → BitVec w.bits) (s : State) (v : BitVec w.bits) (f : Psw) :
         Prop :=
       (∀ k, k < w.bits → v.getLsbD k = op ((s.readOperand w m).getLsbD k) ((b s).getLsbD k)) ∧ LogicFlagsOf v f
     let forms (op : Bool → Bool → Bool) (memReg memImm memImmAlt : Instr) : Prop :=
       PutsMem memReg w m (bitwise op fun s => s.getReg w r) ∧
       PutsMem memImm w m (bitwise op fun _ => imm.setWidth w.bits) ∧
       PutsMem memImmAlt w m (bitwise op fun _ => i.signExtend w.bits)
     forms (· && ·) (.andMemReg w m r) (.andMemImm w m imm) (.andMemImmAlt w m i) ∧
     forms (· || ·) (.orMemReg w m r) (.orMemImm w m imm) (.orMemImmAlt w m i) ∧
     forms (· ^^ ·) (.xorMemReg w m r) (.xorMemImm w m imm) (.xorMemImmAlt w m i))

/-- NOT inverts every bit and changes no flag (R427, R428); NEG is the difference from 0 with its six flags (R429,
R430). Choices: log entry 20. -/
def Obligations.ComplementAndNegate : Prop :=
  ∀ (w : Width) (r : Reg) (m : Mem),
    let inverted (a : State → BitVec w.bits) (s : State) (v : BitVec w.bits) (f : Psw) : Prop :=
      (∀ k, k < w.bits → v.getLsbD k = !(a s).getLsbD k) ∧ StatusKept s.psw f
    PutsReg (.notReg w r) w r (inverted fun s => s.getReg w r) ∧
    PutsMem (.notMem w m) w m (inverted fun s => s.readOperand w m) ∧
    PutsReg (.negReg w r) w r (fun s v f => IsDifference 0 (s.getReg w r) false v f) ∧
    PutsMem (.negMem w m) w m (fun s v f => IsDifference 0 (s.readOperand w m) false v f)

/-- TEST1 in every form (R470, R473 to R480): Z is the complement of the bit that the low three or four bits of the
number select, V = CY = 0, and S, AC and P are not constrained. NOT1, CLR1 and SET1 of CY (R489, R498, R508), the
other five status flags not constrained (U7), and of DIR (R499, R509), no other flag changed. Choices: log entry 21. -/
def Obligations.BitTestsAndFlagBits : Prop :=
  (∀ (r : Reg) (m : Mem) (n : Byte),
     let test (w : Width) (a : State → BitVec w.bits) (number : State → Byte) (s : State) (f : Psw) : Prop :=
       f.v = false ∧ f.cy = false ∧ f.z = !(a s).getLsbD ((number s).toNat % w.bits)
     let cl := fun s : State => s.getReg8 .cl_cw
     PutsFlags (.test1Reg8Cl r) (test .byte (fun s => s.getReg8 r) cl) ∧
     PutsFlags (.test1Mem8Cl m) (test .byte (fun s => s.readOperand .byte m) cl) ∧
     PutsFlags (.test1Reg16Cl r) (test .word (fun s => s.getReg16 r) cl) ∧
     PutsFlags (.test1Mem16Cl m) (test .word (fun s => s.readOperand .word m) cl) ∧
     PutsFlags (.test1Reg8Imm r n) (test .byte (fun s => s.getReg8 r) fun _ => n) ∧
     PutsFlags (.test1Mem8Imm m n) (test .byte (fun s => s.readOperand .byte m) fun _ => n) ∧
     PutsFlags (.test1Reg16Imm r n) (test .word (fun s => s.getReg16 r) fun _ => n) ∧
     PutsFlags (.test1Mem16Imm m n) (test .word (fun s => s.readOperand .word m) fun _ => n)) ∧
  (PutsFlags .not1Cy (fun s f => f.cy = !s.psw.cy) ∧
   PutsFlags .clr1Cy (fun _ f => f.cy = false) ∧
   PutsFlags .set1Cy (fun _ f => f.cy = true) ∧
   ∀ s : State,
     exec .clr1Dir s = .next { s with psw := { s.psw with dir := false } } ∧
     exec .set1Dir s = .next { s with psw := { s.psw with dir := true } })

/-- NOT1, CLR1 and SET1 of an operand in every form (R470 to R472, R481 to R488, R490 to R497, R500 to R507): the
one bit is inverted, cleared or set, the other bits and the flags are as before. Choices: log entry 19. -/
def Obligations.BitsOfOperandsChanged : Prop :=
  ∀ (r : Reg) (m : Mem) (n : Byte),
    let change (op : Bool → Bool) (w : Width) (a : State → BitVec w.bits) (number : State → Byte) (s : State)
        (v : BitVec w.bits) (f : Psw) : Prop :=
      (∀ k, k < w.bits → v.getLsbD k =
        if k = (number s).toNat % w.bits then op ((a s).getLsbD k) else (a s).getLsbD k) ∧ StatusKept s.psw f
    let cl := fun s : State => s.getReg8 .cl_cw
    let forms (op : Bool → Bool) (r8Cl m8Cl r16Cl m16Cl r8Imm m8Imm r16Imm m16Imm : Instr) : Prop :=
      PutsReg r8Cl .byte r (change op .byte (fun s => s.getReg8 r) cl) ∧
      PutsMem m8Cl .byte m (change op .byte (fun s => s.readOperand .byte m) cl) ∧
      PutsReg r16Cl .word r (change op .word (fun s => s.getReg16 r) cl) ∧
      PutsMem m16Cl .word m (change op .word (fun s => s.readOperand .word m) cl) ∧
      PutsReg r8Imm .byte r (change op .byte (fun s => s.getReg8 r) fun _ => n) ∧
      PutsMem m8Imm .byte m (change op .byte (fun s => s.readOperand .byte m) fun _ => n) ∧
      PutsReg r16Imm .word r (change op .word (fun s => s.getReg16 r) fun _ => n) ∧
      PutsMem m16Imm .word m (change op .word (fun s => s.readOperand .word m) fun _ => n)
    forms (fun b => !b) (.not1Reg8Cl r) (.not1Mem8Cl m) (.not1Reg16Cl r) (.not1Mem16Cl m) (.not1Reg8Imm r n)
      (.not1Mem8Imm m n) (.not1Reg16Imm r n) (.not1Mem16Imm m n) ∧
    forms (fun _ => false) (.clr1Reg8Cl r) (.clr1Mem8Cl m) (.clr1Reg16Cl r) (.clr1Mem16Cl m) (.clr1Reg8Imm r n)
      (.clr1Mem8Imm m n) (.clr1Reg16Imm r n) (.clr1Mem16Imm m n) ∧
    forms (fun _ => true) (.set1Reg8Cl r) (.set1Mem8Cl m) (.set1Reg16Cl r) (.set1Mem16Cl m) (.set1Reg8Imm r n)
      (.set1Mem8Imm m n) (.set1Reg16Imm r n) (.set1Mem16Imm m n)

/-! ## Shifts and rotates -/

/-- The shifts and rotates by one, of a register and of memory (R522 to R526, R531, R532, R537, R538, R543, R544,
R549, R550, R555, R556, R561, R562). Choices: log entries 20 and 21. -/
def Obligations.SingleShiftsAndRotates : Prop :=
  ∀ (w : Width) (r : Reg) (m : Mem),
    let forms (op : ShiftOp) (reg mem : Instr) : Prop :=
      PutsReg reg w r (fun s v f => ShiftsOnce op s.psw (s.getReg w r) v f) ∧
      PutsMem mem w m (fun s v f => ShiftsOnce op s.psw (s.readOperand w m) v f)
    forms .shl (.shlReg1 w r) (.shlMem1 w m) ∧ forms .shr (.shrReg1 w r) (.shrMem1 w m) ∧
    forms .shra (.shraReg1 w r) (.shraMem1 w m) ∧ forms .rol (.rolReg1 w r) (.rolMem1 w m) ∧
    forms .ror (.rorReg1 w r) (.rorMem1 w m) ∧ forms .rolc (.rolcReg1 w r) (.rolcMem1 w m) ∧
    forms .rorc (.rorcReg1 w r) (.rorcMem1 w m)

/-- The shifts and rotates by CL and by an immediate, of a register and of memory (R521 to R524, R527 to R530, R533
to R536, R539 to R542, R545 to R548, R551 to R554, R557 to R560, R563 to R566): the count is used in full, 0 to 255,
and the rotates through CY are rotations of one bit more. Choices: log entries 20, 21 and 29. -/
def Obligations.CountedShiftsAndRotates : Prop :=
  ∀ (w : Width) (r : Reg) (m : Mem) (i : Byte),
    let forms (op : ShiftOp) (regCl memCl regImm memImm : Instr) : Prop :=
      PutsReg regCl w r (fun s v f => ShiftsBy op (s.getReg8 .cl_cw).toNat s.psw (s.getReg w r) v f) ∧
      PutsMem memCl w m (fun s v f => ShiftsBy op (s.getReg8 .cl_cw).toNat s.psw (s.readOperand w m) v f) ∧
      PutsReg regImm w r (fun s v f => ShiftsBy op i.toNat s.psw (s.getReg w r) v f) ∧
      PutsMem memImm w m (fun s v f => ShiftsBy op i.toNat s.psw (s.readOperand w m) v f)
    forms .shl (.shlRegCl w r) (.shlMemCl w m) (.shlRegImm8 w r i) (.shlMemImm8 w m i) ∧
    forms .shr (.shrRegCl w r) (.shrMemCl w m) (.shrRegImm8 w r i) (.shrMemImm8 w m i) ∧
    forms .shra (.shraRegCl w r) (.shraMemCl w m) (.shraRegImm8 w r i) (.shraMemImm8 w m i) ∧
    forms .rol (.rolRegCl w r) (.rolMemCl w m) (.rolRegImm8 w r i) (.rolMemImm8 w m i) ∧
    forms .ror (.rorRegCl w r) (.rorMemCl w m) (.rorRegImm8 w r i) (.rorMemImm8 w m i) ∧
    forms .rolc (.rolcRegCl w r) (.rolcMemCl w m) (.rolcRegImm8 w r i) (.rolcMemImm8 w m i) ∧
    forms .rorc (.rorcRegCl w r) (.rorcMemCl w m) (.rorcRegImm8 w r i) (.rorcMemImm8 w m i)

/-! ## Bit fields, ports, block instructions -/

/-- INS in the envelope of R255 (R254, R256, R257): the low bits of AW replace the field in the two words at DS1:IY,
the offset register and IY point past the field; the word at IY + 2 is written only where the field reaches it. EXT
in the envelope of R255, with offset and length registers other than AL and AH (R254, R258, R259): the field at
DS0:IX, or the override segment, zero-extended in AW; the offset register and IX point past it. The six status flags
are not constrained. Choices: log entry 25. -/
def Obligations.BitFields : Prop :=
  (∀ (s : State) (r1 r2 : Reg) (n : Byte), Memory.wf s.mem = true →
     let off := (s.getReg8 r1).toNat
     let inserts (i : Instr) (lenMinus1 : Nat) : Prop := off < 16 → lenMinus1 < 16 →
       let len := lenMinus1 + 1
       let wordsAt (u : State) : BitVec 32 := u.readWord s.ds1 (s.iy + 2) ++ u.readWord s.ds1 s.iy
       ∃ t, exec i s = .next t ∧
         (∀ k, k < 32 → (wordsAt t).getLsbD k =
           if off ≤ k ∧ k < off + len then s.aw.getLsbD (k - off) else (wordsAt s).getLsbD k) ∧
         (t.getReg8 r1).toNat = (off + len) % 16 ∧ (∀ x, x ≠ r1 → t.getReg8 x = s.getReg8 x) ∧
         t.iy = (if 16 ≤ off + len then s.iy + 2 else s.iy) ∧
         MemKeptOutside (if off + len ≤ 16 then 2 else 4) s.ds1 s.iy s t ∧ ControlKept s t ∧
         t = { s with
           aw := t.aw, bw := t.bw, cw := t.cw, dw := t.dw, iy := t.iy, mem := t.mem, psw := t.psw
           freeCtr := t.freeCtr }
     inserts (.insReg8Reg8 r1 r2) (s.getReg8 r2).toNat ∧ inserts (.insReg8Imm4 r1 n) n.toNat) ∧
  (∀ (s : State) (r1 r2 : Reg) (n : Byte), r1 ≠ .al_aw → r1 ≠ .ah_sp →
     let off := (s.getReg8 r1).toNat
     let seg := s.overridden .ds0
     let extracts (i : Instr) (lenMinus1 : Nat) : Prop := off < 16 → lenMinus1 < 16 →
       let len := lenMinus1 + 1
       ∃ t, exec i s = .next t ∧
         t.aw.toNat = ((s.readWord seg (s.ix + 2)).toNat * 65536 + (s.readWord seg s.ix).toNat) / 2 ^ off % 2 ^ len ∧
         (t.getReg8 r1).toNat = (off + len) % 16 ∧
         (∀ x, x ≠ r1 → x ≠ .al_aw → x ≠ .ah_sp → t.getReg8 x = s.getReg8 x) ∧
         t.ix = (if 16 ≤ off + len then s.ix + 2 else s.ix) ∧ ControlKept s t ∧
         t = { s with
           aw := t.aw, bw := t.bw, cw := t.cw, dw := t.dw, ix := t.ix, psw := t.psw, freeCtr := t.freeCtr }
     (r2 ≠ .al_aw → r2 ≠ .ah_sp → extracts (.extReg8Reg8 r1 r2) (s.getReg8 r2).toNat) ∧
       extracts (.extReg8Imm4 r1 n) n.toNat)

/-- IN and OUT (R96, R260 to R263): the accumulator takes what the ports answer, or is written to them, low port
first; no flag changes. Choices: log entry 11. -/
def Obligations.InputAndOutput : Prop :=
  ∀ (s : State) (w : Width) (p : Byte),
    let reads (i : Instr) (port : Word) : Prop := ∃ t, exec i s = .next t ∧
      t.getReg w .al_aw = s.portOperand w port ∧ OtherRegsKept w .al_aw s t ∧
      OnlyRegs { s with ioIn := s.ioIn.drop w.bytes, ioCtr := s.ioCtr + w.bytes } t
    let writes (i : Instr) (port : Word) : Prop :=
      exec i s = .next { s with ioOut := portWrites w port (s.getReg w .al_aw) ++ s.ioOut }
    reads (.inAccImm8 w p) (p.setWidth 16) ∧ reads (.inAccDw w) s.dw ∧
      writes (.outImm8Acc w p) (p.setWidth 16) ∧ writes (.outDwAcc w) s.dw

/-- One element of each block instruction, without a repeat prefix (R248 to R253, R264, R265): source at DS0:IX or
the override segment, destination at DS1:IY, the pointers moved by the element's size in the direction of DIR.
Choices: log entries 11 and 20. -/
def Obligations.BlockInstructionsDoOneElement : Prop :=
  ∀ (s : State) (w : Width), Memory.wf s.mem = true → s.pfx.rep = none →
    let source := s.readMem w (s.overridden .ds0) s.ix
    let ix := s.pointerAfter w s.ix
    let iy := s.pointerAfter w s.iy
    (∃ t, exec (.movbk w) s = .next t ∧ t.readMem w s.ds1 s.iy = source ∧ MemKeptOutside w.bytes s.ds1 s.iy s t ∧
      t = { s with mem := t.mem, ix := ix, iy := iy }) ∧
    (∃ t, exec (.cmpbk w) s = .next t ∧
      DifferenceFlags source (s.readMem w s.ds1 s.iy) false (source - s.readMem w s.ds1 s.iy) t.psw ∧
      ControlKept s t ∧ t = { s with psw := t.psw, ix := ix, iy := iy }) ∧
    (∃ t, exec (.cmpm w) s = .next t ∧
      DifferenceFlags (s.getReg w .al_aw) (s.readMem w s.ds1 s.iy) false
        (s.getReg w .al_aw - s.readMem w s.ds1 s.iy) t.psw ∧
      ControlKept s t ∧ t = { s with psw := t.psw, iy := iy }) ∧
    (∃ t, exec (.ldm w) s = .next t ∧ t.getReg w .al_aw = source ∧ OtherRegsKept w .al_aw { s with ix := ix } t ∧
      OnlyRegs s t) ∧
    (∃ t, exec (.stm w) s = .next t ∧ t.readMem w s.ds1 s.iy = s.getReg w .al_aw ∧
      MemKeptOutside w.bytes s.ds1 s.iy s t ∧ t = { s with mem := t.mem, iy := iy }) ∧
    (∃ t, exec (.inm w) s = .next t ∧ t.readMem w s.ds1 s.iy = s.portOperand w s.dw ∧
      MemKeptOutside w.bytes s.ds1 s.iy s t ∧
      t = { s with mem := t.mem, iy := iy, ioIn := s.ioIn.drop w.bytes, ioCtr := s.ioCtr + w.bytes }) ∧
    exec (.outm w) s = .next { s with ioOut := portWrites w s.dw source ++ s.ioOut, ix := ix }

/-- A repeated block instruction that nothing disturbs, an INT that is held off by the instruction before among it
(R53, R761), does element after element, CW counted down after each: none for CW = 0; the instructions that do not
compare until CW is 0; CMPBK and CMPM until CW is 0 or an element ends the loop (R240, R241, R246). Choices: log
entries 14 and 36. -/
def Obligations.RepeatRunsElementByElement : Prop :=
  ∀ (s : State) (w : Width) (r : Rep) (i : Instr), s.Undisturbed → s.pfx.rep = some r →
    (i ∈ [.movbk w, .ldm w, .stm w, .inm w, .outm w] →
      r = .rep ∨ r = .repne → ∃ t, exec i s = .next t ∧ RunsElements i s.cw.toNat s t) ∧
    (i ∈ [.cmpbk w, .cmpm w] →
      ∃ t n, exec i s = .next t ∧ RunsElements i n s t ∧ n ≤ s.cw.toNat ∧
        (n < s.cw.toNat → 0 < n ∧ RepeatEnds r t.psw) ∧
        ∀ k u, 0 < k → k < n → RunsElements i k s u → ¬RepeatEnds r u.psw)

/-- Where NMI is pending, or INT is high with IE = 1 and no inhibit window open, a repeated block instruction that
has more than one element to do stops after the first one (the comparing ones only if that element does not end the
loop): CW is counted down, PC is that of the opcode less one for each prefix, at most three, and the queue is empty
(R247, R760, R761, R768). Choices: log entry 36. -/
def Obligations.RepeatStopsBetweenElements : Prop :=
  ∀ (s u : State) (w : Width) (r : Rep) (i : Instr),
    s.pfx.rep = some r → 2 ≤ s.cw.toNat → s.inputs = [] → s.prefetchPlan = [] →
    s.nmiPending = true ∨ s.intAcceptable = true →
    i ∈ [.movbk w, .ldm w, .stm w, .inm w, .outm w] ∨ i ∈ [.cmpbk w, .cmpm w] ∧ ¬RepeatEnds r u.psw →
    RunsElements i 1 s u →
      exec i s = .next { u with
        pc := s.pc - 1 - BitVec.ofNat 16 (min s.pfx.count 3), queue := [], suspended := true }

/-! ## Control transfer -/

/-- The sixteen branches on flags (R650 to R666): taken to PC plus the sign-extended displacement modulo 2^16, with
the queue cleared; not taken, nothing changes. The branches on CW (R617, R667 to R669): CW counted down modulo 2^16
and compared with 0, no flag changed; BCWZ leaves CW. Choices: log entries 10 and 19. -/
def Obligations.ConditionalBranches : Prop :=
  (∀ (s : State) (disp : Byte),
     let branches (i : Instr) (taken : Prop) : Prop :=
       (taken → ∃ t, exec i s = .next t ∧ (t.pc.toNat : Int) = (s.pc.toNat + disp.toInt) % 65536 ∧
         t = { s with pc := t.pc, queue := [] }) ∧
       (¬taken → exec i s = .next s)
     let f := s.psw
     branches (.bv disp) (f.v = true) ∧ branches (.bnv disp) (f.v = false) ∧
     branches (.bc disp) (f.cy = true) ∧ branches (.bnc disp) (f.cy = false) ∧
     branches (.be disp) (f.z = true) ∧ branches (.bne disp) (f.z = false) ∧
     branches (.bnh disp) (f.cy = true ∨ f.z = true) ∧ branches (.bh disp) (f.cy = false ∧ f.z = false) ∧
     branches (.bn disp) (f.s = true) ∧ branches (.bp disp) (f.s = false) ∧
     branches (.bpe disp) (f.p = true) ∧ branches (.bpo disp) (f.p = false) ∧
     branches (.blt disp) (f.s ≠ f.v) ∧ branches (.bge disp) (f.s = f.v) ∧
     branches (.ble disp) (f.s ≠ f.v ∨ f.z = true) ∧ branches (.bgt disp) (f.s = f.v ∧ f.z = false)) ∧
  (∀ (s : State) (disp : Byte),
     let branches (i : Instr) (cw : Word) (taken : Prop) : Prop :=
       (taken → ∃ t, exec i s = .next t ∧ (t.pc.toNat : Int) = (s.pc.toNat + disp.toInt) % 65536 ∧
         t = { s with cw := cw, pc := t.pc, queue := [] }) ∧
       (¬taken → exec i s = .next { s with cw := cw })
     let down : Word := BitVec.ofNat 16 (s.cw.toNat + 65535)
     branches (.dbnzne disp) down (s.cw.toNat ≠ 1 ∧ s.psw.z = false) ∧
     branches (.dbnze disp) down (s.cw.toNat ≠ 1 ∧ s.psw.z = true) ∧
     branches (.dbnz disp) down (s.cw.toNat ≠ 1) ∧ branches (.bcwz disp) s.cw (s.cw.toNat = 0))

/-- BR in every form (R610 to R615): the target, the queue cleared, nothing else. Choices: log entries 10 and 19. -/
def Obligations.BranchesGoToTheirTargets : Prop :=
  ∀ (s : State) (d : Word) (d8 : Byte) (r : Reg) (m : Mem) (seg : Word),
    let goesTo (i : Instr) (ps : Word) (pc : Int) : Prop :=
      ∃ t, exec i s = .next t ∧ (t.pc.toNat : Int) = pc ∧ t = { s with ps := ps, pc := t.pc, queue := [] }
    goesTo (.brNear d) s.ps ((s.pc.toNat + d.toNat) % 65536) ∧
    goesTo (.brShort d8) s.ps ((s.pc.toNat + d8.toInt) % 65536) ∧
    goesTo (.brReg16 r) s.ps (s.getReg16 r).toNat ∧
    goesTo (.brMem16 m) s.ps (s.readWord (s.segOf m) (s.ea m)).toNat ∧
    goesTo (.brFar d seg) seg d.toNat ∧
    goesTo (.brMem32 m) (s.readWord (s.segOf m) (BitVec.ofNat 16 ((s.ea m).toNat + 2)))
      (s.readWord (s.segOf m) (s.ea m)).toNat

/-- CALL in every form (R601 to R605): the return address pushed, PS first for a far call, a pointer in memory read
before, and a register after, the push. Choices: log entries 10 and 44. -/
def Obligations.CallsPushTheReturnAddress : Prop :=
  ∀ (s : State) (d seg : Word) (r : Reg) (m : Mem), Memory.wf s.mem = true →
    let near (i : Instr) (target : Word) : Prop := ∃ t, exec i s = .next t ∧ t.sp = s.sp - 2 ∧
      t.readWord s.ss (s.sp - 2) = s.pc ∧ MemKeptOutside 2 s.ss (s.sp - 2) s t ∧
      t = { s with sp := t.sp, mem := t.mem, pc := target, queue := [] }
    let far (i : Instr) (seg target : Word) : Prop := ∃ t, exec i s = .next t ∧ t.sp = s.sp - 4 ∧
      t.readWord s.ss (s.sp - 2) = s.ps ∧ t.readWord s.ss (s.sp - 4) = s.pc ∧
      MemKeptOutside 4 s.ss (s.sp - 4) s t ∧
      t = { s with sp := t.sp, mem := t.mem, ps := seg, pc := target, queue := [] }
    near (.callNear d) (s.pc + d) ∧
    near (.callReg16 r) (if r = .ah_sp then s.sp - 2 else s.getReg16 r) ∧
    near (.callMem16 m) (s.readWord (s.segOf m) (s.ea m)) ∧
    far (.callFar d seg) seg d ∧
    far (.callMem32 m) (s.readWord (s.segOf m) (s.ea m + 2)) (s.readWord (s.segOf m) (s.ea m))

/-- RET in every form (R606 to R609): PC, and PS for a far return, popped, and the pop value added to SP. Choices:
log entries 10 and 19. -/
def Obligations.ReturnsPopTheReturnAddress : Prop :=
  ∀ (s : State) (n : Word),
    let near (i : Instr) (n : Nat) : Prop := ∃ t, exec i s = .next t ∧ t.sp.toNat = (s.sp.toNat + 2 + n) % 65536 ∧
      t = { s with sp := t.sp, pc := s.readWord s.ss s.sp, queue := [] }
    let far (i : Instr) (n : Nat) : Prop := ∃ t, exec i s = .next t ∧ t.sp.toNat = (s.sp.toNat + 4 + n) % 65536 ∧
      t = { s with sp := t.sp, pc := s.readWord s.ss s.sp, ps := s.readWord s.ss (s.sp + 2), queue := [] }
    near .retNear 0 ∧ near (.retNearPop n) n.toNat ∧ far .retFar 0 ∧ far (.retFarPop n) n.toNat

/-! ## Stack -/

/-- PUSH in every form (R630, R633 to R636, R638, R639): the word at SS:SP - 2, a byte immediate sign-extended; of
SP the value before the push (D44). Choices: log entries 7 and 10. -/
def Obligations.PushesStoreBelowTheStackPointer : Prop :=
  ∀ (r : Reg) (m : Mem) (sr : Sreg) (i : Byte) (imm : Word),
    Pushes (.pushMem16 m) (fun s => s.readWord (s.segOf m) (s.ea m)) ∧
    Pushes (.pushReg16 r) (fun s => s.getReg16 r) ∧ Pushes (.pushReg16Alt r) (fun s => s.getReg16 r) ∧
    Pushes (.pushSreg sr) (fun s => s.getSreg sr) ∧ Pushes .pushPsw (fun s => s.psw.image) ∧
    Pushes (.pushImm8 i) (fun _ => i.signExtend 16) ∧ Pushes (.pushImm16 imm) (fun _ => imm)

/-- POP in every form (R631, R641 to R643, R646): the word at SS:SP, SP moved up by 2, and SP itself takes the word
popped into it (D43); the window after POP of a segment register (R765); MD loaded only while its write enable is
set (R54). Choices: log entries 9 and 31. -/
def Obligations.PopsLoadFromTheStackPointer : Prop :=
  ∀ (s : State) (r : Reg) (m : Mem) (sr : Sreg),
    let word := s.readWord s.ss s.sp
    (∀ i, i = .popReg16 r ∨ i = .popReg16Alt r →
      ∃ t, exec i s = .next t ∧ t.getReg16 r = word ∧ OtherRegsKept .word r { s with sp := s.sp + 2 } t ∧
        OnlyRegs s t) ∧
    (Memory.wf s.mem = true →
      ∃ t, exec (.popMem16 m) s = .next t ∧ t.readWord (s.segOf m) (s.ea m) = word ∧
        MemKeptOutside 2 (s.segOf m) (s.ea m) s t ∧ t = { s with sp := s.sp + 2, mem := t.mem }) ∧
    (sr ≠ .ps →
      ∃ t, exec (.popSreg sr) s = .next t ∧ t.getSreg sr = word ∧ (∀ x, x ≠ sr → t.getSreg x = s.getSreg x) ∧
        t = { s with ss := t.ss, ds0 := t.ds0, ds1 := t.ds1, sp := s.sp + 2, inhibitAll := true }) ∧
    exec .popPsw s = .next { s with
      sp := s.sp + 2, psw := { Psw.ofImage word with md := if s.mdWe then word.getLsbD 15 else true } }

/-- PUSH R, the byte 60H, stores the eight registers from SS:SP - 2 downward, SP as it was before (R637), and POP R,
the byte 61H, loads all but SP from SS:SP upward and moves SP up by 16 (R647). Choices: log entry 10. -/
def Obligations.RegisterSetPushedAndPopped : Prop :=
  (∀ rest : List Byte,
    decode true (0x60 :: rest) = .ok (.pushR, rest) ∧ decode true (0x61 :: rest) = .ok (.popR, rest)) ∧
  ∀ s : State,
    (Memory.wf s.mem = true →
      ∃ t, exec .pushR s = .next t ∧ t.sp = s.sp - 16 ∧
        t.readWord s.ss (s.sp - 2) = s.aw ∧ t.readWord s.ss (s.sp - 4) = s.cw ∧
        t.readWord s.ss (s.sp - 6) = s.dw ∧ t.readWord s.ss (s.sp - 8) = s.bw ∧
        t.readWord s.ss (s.sp - 10) = s.sp ∧ t.readWord s.ss (s.sp - 12) = s.bp ∧
        t.readWord s.ss (s.sp - 14) = s.ix ∧ t.readWord s.ss (s.sp - 16) = s.iy ∧
        MemKeptOutside 16 s.ss (s.sp - 16) s t ∧ t = { s with sp := t.sp, mem := t.mem }) ∧
    exec .popR s = .next { s with
      iy := s.readWord s.ss s.sp, ix := s.readWord s.ss (s.sp + 2), bp := s.readWord s.ss (s.sp + 4)
      bw := s.readWord s.ss (s.sp + 8), dw := s.readWord s.ss (s.sp + 10), cw := s.readWord s.ss (s.sp + 12)
      aw := s.readWord s.ss (s.sp + 14), sp := s.sp + 16 }

/-- PREPARE (R648): BP pushed, BP the frame base, for a level above 0 as many words below it as the level says, the
lowest of them the frame base, then SP moved down by the size; where the words copied are not overwritten meanwhile,
they are those below the old BP. DISPOSE releases the frame (R649); after a PREPARE of any level and size it
restores BP and SP. Choices: log entry 42. -/
def Obligations.PrepareAndDispose : Prop :=
  (∀ (s : State) (size : Word) (level : Byte), Memory.wf s.mem = true →
     let n := level.toNat
     ∃ t, exec (.prepare size level) s = .next t ∧ t.bp = s.sp - 2 ∧
       t.sp = s.sp - 2 - BitVec.ofNat 16 (2 * n) - size ∧ t.readWord s.ss (s.sp - 2) = s.bp ∧
       (0 < n → t.readWord s.ss (s.sp - 2 - BitVec.ofNat 16 (2 * n)) = s.sp - 2) ∧
       ((∀ j k, j < 2 * n → k < 2 * n + 2 →
           s.bp - BitVec.ofNat 16 (2 * n) + BitVec.ofNat 16 j ≠
             s.sp - 2 - BitVec.ofNat 16 (2 * n) + BitVec.ofNat 16 k) →
         ∀ j, 0 < j → j < n →
           t.readWord s.ss (s.sp - 2 - BitVec.ofNat 16 (2 * j)) = s.readWord s.ss (s.bp - BitVec.ofNat 16 (2 * j))) ∧
       MemKeptOutside (2 * n + 2) s.ss (s.sp - 2 - BitVec.ofNat 16 (2 * n)) s t ∧
       t = { s with sp := t.sp, bp := t.bp, mem := t.mem }) ∧
  ((∀ s : State, exec .dispose s = .next { s with bp := s.readWord s.ss s.bp, sp := s.bp + 2 }) ∧
   ∀ (s t : State) (size : Word) (level : Byte), Memory.wf s.mem = true → exec (.prepare size level) s = .next t →
     exec .dispose t = .next { s with mem := t.mem })

/-! ## Interrupts and the emulation mode -/

/-- BRK 3, BRK imm8 and, with V = 1, BRKV enter their vectors (R671 to R673, R750 to R755); with V = 0 BRKV does
nothing. CHKIND with an index between the two limits, both included, does nothing; with any other it enters vector 5
(R676, R755). The comparison is signed: the model's choice of parameter P6, log entry 8. Choices: log entries 8 and
27. -/
def Obligations.SoftwareBreaksAndChkind : Prop :=
  (∀ (s : State) (n : Byte), Memory.wf s.mem = true →
     (∃ t, exec .brk3 s = .next t ∧ Interrupted 3 s t) ∧
     (∃ t, exec (.brkImm8 n) s = .next t ∧ Interrupted n s t) ∧
     (s.psw.v = true → ∃ t, exec .brkv s = .next t ∧ Interrupted 4 s t) ∧
     (s.psw.v = false → exec .brkv s = .next s)) ∧
  (∀ (s : State) (r : Reg) (m : Mem), Memory.wf s.mem = true →
     let index := (s.getReg16 r).toInt
     let lower := (s.readWord (s.segOf m) (s.ea m)).toInt
     let upper := (s.readWord (s.segOf m) (BitVec.ofNat 16 ((s.ea m).toNat + 2))).toInt
     (lower ≤ index → index ≤ upper → exec (.chkind r m) s = .next s) ∧
     (index < lower ∨ upper < index → ∃ t, exec (.chkind r m) s = .next t ∧ Interrupted 5 s t))

/-- RETI pops PC, PS and the PSW (R674, R754); MD is loaded only while its write enable is set (R54). Right after
the entry of an interrupt it gives back PS, PC, SP and every flag, whatever the vector; MD too, in the native mode
or while its write enable is set. Choices: log entry 31. -/
def Obligations.RetiReturnsFromAnInterrupt : Prop :=
  (∀ s : State,
     let w := s.readWord s.ss (s.sp + 4)
     exec .reti s = .next { s with
       pc := s.readWord s.ss s.sp, ps := s.readWord s.ss (s.sp + 2), sp := s.sp + 6, queue := []
       psw := { Psw.ofImage w with md := if s.mdWe then w.getLsbD 15 else true } }) ∧
  (∀ (s : State) (n : Byte), Memory.wf s.mem = true → s.psw.md = true ∨ s.mdWe = true →
     exec .reti (s.interrupt n) = .next { s with mem := (s.interrupt n).mem, queue := [] })

/-- BRKEM pushes the frame and enters its vector in the emulation mode, MD cleared and its write enable set, IE and
BRK as they were (R675, D45); with the write enable set already the model refuses it (U8, R732). CALLN pushes the
frame, MD = 0 in its image, and enters its vector in the native mode (R727); RETEM pops PC, PS and the PSW with its
MD, and clears the write enable (R728). The registers and flags of the 8080 are AL, the halves of CW, DW and BW, BP
and the low byte of the PSW (R723, R724), its memory is the segment of DS0 and its stack is there at BP (R725);
whatever an 8080 instruction does, AH, SP, IX, IY, the segment registers, the high byte of the PSW but IE, and
memory outside that segment stay as they are, and no BUSLOCK is left for standby. Choices: log entries 18 and 30. -/
def Obligations.EmulationModeEntriesAndReturns : Prop :=
  (∀ (s : State) (n : Byte),
     (s.mdWe = true → exec (.brkem n) s = .refused .brkemNested) ∧
     (s.mdWe = false → Memory.wf s.mem = true →
       ∃ t, exec (.brkem n) s = .next t ∧ FramePushed s.psw.image s t ∧ AtVector n t ∧
         t.psw = { s.psw with md := false } ∧ t.mdWe = true ∧
         t = { s with
           sp := t.sp, mem := t.mem, psw := t.psw, mdWe := t.mdWe, ps := t.ps, pc := t.pc, queue := t.queue })) ∧
  (∀ (s : State) (n : Byte),
     (Memory.wf s.mem = true →
       ∃ t, exec (.calln n) s = .next t ∧ FramePushed s.psw.image s t ∧ AtVector n t ∧
         t.psw = { s.psw with md := true } ∧
         t = { s with sp := t.sp, mem := t.mem, psw := t.psw, ps := t.ps, pc := t.pc, queue := t.queue }) ∧
     exec .retem s = .next { s with
       pc := s.readWord s.ss s.sp, ps := s.readWord s.ss (s.sp + 2), sp := s.sp + 6, queue := []
       psw := Psw.ofImage (s.readWord s.ss (s.sp + 4)), mdWe := false }) ∧
  (∀ (s : State) (a k : Word),
     s.get8080 .a = s.getReg8 .al_aw ∧ s.get8080 .b = s.getReg8 .ch_bp ∧ s.get8080 .c = s.getReg8 .cl_cw ∧
     s.get8080 .d = s.getReg8 .dh_ix ∧ s.get8080 .e = s.getReg8 .dl_dw ∧ s.get8080 .h = s.getReg8 .bh_iy ∧
     s.get8080 .l = s.getReg8 .bl_bw ∧ s.sp8080 = s.bp ∧ s.flags8080.toNat = s.psw.image.toNat % 256 ∧
     s.read8080 a = s.readByte s.ds0 a ∧ s.readStack8080 k = s.readByte s.ds0 (s.bp + k)) ∧
  (∀ s t : State, Memory.wf s.mem = true →
     let u := s.after8080 t
     u.getReg8 .al_aw = t.getReg8 .al_aw ∧ u.getReg8 .ah_sp = s.getReg8 .ah_sp ∧ u.bw = t.bw ∧ u.cw = t.cw ∧
       u.dw = t.dw ∧ u.bp = t.bp ∧ u.pc = t.pc ∧ u.sp = s.sp ∧ u.ix = s.ix ∧ u.iy = s.iy ∧ u.ps = s.ps ∧
       u.ss = s.ss ∧ u.ds0 = s.ds0 ∧ u.ds1 = s.ds1 ∧
       u.psw = { s.psw with
         s := t.psw.s, z := t.psw.z, ac := t.psw.ac, p := t.psw.p, cy := t.psw.cy, ie := t.psw.ie } ∧
       u.mdWe = s.mdWe ∧ u.nmiPending = s.nmiPending ∧ u.pins = s.pins ∧ u.halted = t.halted ∧ u.haltLock = false ∧
       Memory.wf u.mem = true ∧ (∀ a, u.readByte s.ds0 a = t.readByte s.ds0 a) ∧
       ∀ k, (∀ a, k ≠ (phys s.ds0 a).toNat) → Memory.read u.mem k = Memory.read s.mem k)

/-- Without BRKEM and RETEM no instruction takes the machine out of the native mode while the write enable of MD is
clear: MD stays 1 whatever is on the stack (R54, R646, R674). Choices: log entry 31. -/
def Obligations.NativeModeIsLeftByBrkemAlone : Prop :=
  ∀ (i : Instr) (s t : State), s.psw.md = true → s.mdWe = false → (∀ n, i ≠ .brkem n) → i ≠ .retem →
    exec i s = .next t → t.psw.md = true ∧ t.mdWe = false

/-- IE becomes 1 only by EI and by the instructions that load the PSW from the stack (R43, R692 to R693, R646, R674,
R728). -/
def Obligations.InterruptsAreEnabledByFourInstructions : Prop :=
  ∀ (i : Instr) (s t : State), s.psw.ie = false → exec i s = .next t → t.psw.ie = true →
    i = .ei ∨ i = .popPsw ∨ i = .reti ∨ i = .retem

/-! ## CPU control and prefixes -/

/-- HALT, DI, EI, NOP, POLL and the four coprocessor escapes (R690 to R693, R696, R700 to R703). HALT also notes a
BUSLOCK before it (R784). POLL with the pin high leaves everything as it was before its own first byte, prefixes
included: PC goes back to that byte and the queue to what it was before it. Choices: log entries 12 and 32. -/
def Obligations.CpuControlInstructions : Prop :=
  ∀ (s : State) (x y z : BitVec 3) (b : Bool) (m : Mem),
    exec .halt s = .next { s with halted := true, haltLock := s.pfx.lock } ∧
    exec .di s = .next { s with psw := { s.psw with ie := false } } ∧
    exec .ei s = .next { s with psw := { s.psw with ie := true }, inhibitInt := true } ∧
    exec .nop s = .next s ∧
    (s.pins.pollHigh = false → exec .poll s = .next s) ∧
    (s.pins.pollHigh = true →
      ∃ t, exec .poll s = .next t ∧ (t.pc.toNat : Int) = (s.pc.toNat - (1 + s.pfx.count) : Int) % 65536 ∧
        t = { s with pc := t.pc, queue := s.queueBefore }) ∧
    exec (.fpo1 x y z) s = .next s ∧ exec (.fpo1Mem x y m) s = .next s ∧ exec (.fpo2 b y z) s = .next s ∧
    exec (.fpo2Mem b y m) s = .next s

/-- A prefix is held for the instruction that follows: the last segment override, a BUSLOCK, one kind of repeat
prefix (R135, R242 to R246, R694, R710); a different repeat prefix after one is refused (R246). Choices: log entries
13 and 14. -/
def Obligations.PrefixesAreHeld : Prop :=
  ∀ (s : State) (sr : Sreg),
    exec (.segOverride sr) s = .next { s with pfx := { s.pfx with seg := some sr, count := s.pfx.count + 1 } } ∧
    exec .buslock s = .next { s with pfx := { s.pfx with lock := true, count := s.pfx.count + 1 } } ∧
    ∀ i r, (i, r) ∈ [(Instr.repc, Rep.repc), (.repnc, .repnc), (.rep, .rep), (.repne, .repne)] →
      (s.pfx.rep = none ∨ s.pfx.rep = some r →
        exec i s = .next { s with pfx := { s.pfx with rep := some r, count := s.pfx.count + 1 } }) ∧
      (s.pfx.rep ≠ none → s.pfx.rep ≠ some r → exec i s = .refused .repeatCombination)

/-- Every instruction completes in every state but two: a repeat prefix after a different one (R246), and BRKEM
while the write enable of MD is set (R732). Choices: log entries 14 and 30. -/
def Obligations.EveryOtherInstructionCompletes : Prop :=
  ∀ (i : Instr) (s : State),
    (∃ t, exec i s = .next t) ∨
      (i = .repc ∨ i = .repnc ∨ i = .rep ∨ i = .repne) ∧ s.pfx.rep ≠ none ∧
        exec i s = .refused .repeatCombination ∨
      (∃ n, i = .brkem n) ∧ s.mdWe = true ∧ exec i s = .refused .brkemNested

/-! ## The step -/

/-- Where the bytes at PS:PC are those of a well-formed instruction of the current mode and nothing has been
prefetched, the step runs that instruction with PC behind it and the inhibit windows of the instruction before still
open; then those windows are closed that it has not opened itself, and the boundary is made, which a prefix does not
have (R38, R53, R135, R139, R765, R808). In the emulation mode the bytes that are neither CALLN nor RETEM are run by
parameter P7 where it is given, and refused by name where it is absent (R155, R722). Choices: log entries 13, 14, 18
and 33. -/
def Obligations.StepRunsTheDecodedInstruction : Prop :=
  (∀ (s : State) (i : Instr), s.pins.reset = false → s.halted = false → s.queue = [] → s.prefetchPlan = [] →
     i.wf = true → i.nativeMode = s.psw.md → repeatAllowed s.pfx.rep i = true →
     (∀ k, k < (encode i).length →
       (encode i)[k]? = some (s.readByte s.ps (BitVec.ofNat 16 (s.pc.toNat + k)))) →
     step s =
       match exec i { s with
         pc := s.pc + BitVec.ofNat 16 (encode i).length
         queueBefore := if s.pfx.count = 0 then [] else s.queueBefore
         suspended := false } with
       | .next t =>
         .next
           (if isPrefix i then t
           else
             { t with
               inhibitAll := opensWindowAll i && t.inhibitAll
               inhibitInt := opensWindowInt i && t.inhibitInt
               pfx := Prefixes.none }.boundary s.psw.brk)
       | .fault r => .fault r
       | .refused r => .refused r) ∧
  (∀ (s : State) (f : State → State), s.pins.reset = false → s.halted = false → s.psw.md = false →
     ¬(s.fetchByte 0 = 0xED ∧ (s.fetchByte 1 = 0xED ∨ s.fetchByte 1 = 0xFD)) →
     step s = .refused .unspecified8080 ∧
     stepWith none s = .refused .unspecified8080 ∧
     stepWith (some f) s = .next ((s.after8080 (f s)).boundary s.psw.brk))

/-- At the boundary after an instruction, in this order: a reset waits for the next step; after the five
instructions of R765 nothing is accepted; NMI; INT with IE = 1, but not after EI; the single-step break where BRK
was 1 when the instruction started; else nothing. At most one is entered (R763, R765, R770). Choices: log entry 35. -/
def Obligations.BoundaryAcceptsAtMostOne : Prop :=
  ∀ (s : State) (brk : Bool), Memory.wf s.mem = true → s.suspended = false → s.inputs = [] →
    (s.pins.reset = true ∨ s.inhibitAll = true → s.boundary brk = s) ∧
    (s.pins.reset = false → s.inhibitAll = false →
      (s.nmiPending = true → Interrupted 2 { s with nmiPending := false, halted := false } (s.boundary brk)) ∧
      (s.nmiPending = false → s.pins.intLevel = true → s.psw.ie = true → s.inhibitInt = false →
        Interrupted s.pins.intVector { s with halted := false } (s.boundary brk)) ∧
      (s.nmiPending = false → s.pins.intLevel = false ∨ s.psw.ie = false ∨ s.inhibitInt = true →
        (brk = true → Interrupted 1 { s with halted := false } (s.boundary brk)) ∧
        (brk = false → s.boundary brk = s)))

/-- Standby ends by NMI, by INT with an entry for IE = 1 and without one for IE = 0; while nothing comes, nothing
changes (R783 to R786). Choices: log entry 37. -/
def Obligations.StandbyEndsByNmiOrInt : Prop :=
  ∀ s : State, Memory.wf s.mem = true → s.halted = true → s.pins.reset = false → s.inputs = [] →
    (s.nmiPending = true →
      ∃ t, step s = .next t ∧ Interrupted 2 { s with nmiPending := false, halted := false } t) ∧
    (s.nmiPending = false → s.pins.intLevel = true → s.psw.ie = true →
      ∃ t, step s = .next t ∧ Interrupted s.pins.intVector { s with halted := false } t) ∧
    (s.nmiPending = false → s.pins.intLevel = true → s.psw.ie = false → step s = .next { s with halted := false }) ∧
    (s.nmiPending = false → s.pins.intLevel = false → step s = .next s)

/-- With RESET high the step leaves PS = FFFFH, PC, SS, DS0, DS1 = 0, MD = 1, DIR = IE = BRK = 0, an empty queue and
the hidden state clear, whatever the machine was doing; memory and the ports are not touched, and the general
registers and the status flags are not constrained (R800, R801). The first fetch is at FFFF0H (R802). Choices: log
entries 3, 4 and 34. -/
def Obligations.ResetForcesTheInitialState : Prop :=
  ∀ s : State, s.pins.reset = true → s.inputs = [] →
    ∃ t, step s = .next t ∧ t.ps = 0xFFFF ∧ t.pc = 0 ∧ t.ss = 0 ∧ t.ds0 = 0 ∧ t.ds1 = 0 ∧ t.psw.md = true ∧
      t.psw.dir = false ∧ t.psw.ie = false ∧ t.psw.brk = false ∧ t.queue = [] ∧ t.mdWe = false ∧
      t.nmiPending = false ∧ t.inhibitAll = false ∧ t.inhibitInt = false ∧ t.halted = false ∧ t.haltLock = false ∧
      t.pfx = Prefixes.none ∧ t.mem = s.mem ∧ t.ioOut = s.ioOut ∧ t.ioIn = s.ioIn ∧
      (phys t.ps t.pc).toNat = 0xFFFF0

/-- The state after reset: the values of R800, and the invariant. Choices: log entry 4. -/
def Obligations.ResetStateMeetsTheInvariant : Prop :=
  State.reset.Inv ∧ State.reset.ps = 0xFFFF ∧ State.reset.pc = 0 ∧ State.reset.ss = 0 ∧ State.reset.ds0 = 0 ∧
    State.reset.ds1 = 0 ∧ State.reset.psw.md = true ∧ State.reset.psw.dir = false ∧ State.reset.psw.ie = false ∧
    State.reset.psw.brk = false ∧ State.reset.queue = []

/-- Every step keeps the invariant, from every state that satisfies it. Choices: log entries 5, 13 and 36. -/
def Obligations.StepKeepsTheInvariant : Prop :=
  ∀ s t : State, s.Inv → step s = .next t → t.Inv
end

