-- ==== Sys2Proof/Laws/Memory.lean ====
section
/-! SUPPORT. The laws of memory: what a read gives after a write, that every write keeps the canonical form, and that
two memories in canonical form that read alike are equal. -/

namespace Sys2Proof.Machine

/-! ## One byte -/

/-- A byte written reads back. -/
theorem Memory.read_write_same (m : List Host.Cell) (a : Nat) (v : Byte) (lo : Nat) (h : Memory.wfFrom lo m = true) :
    Memory.read (Memory.write m a v) a = v := by
  induction m generalizing lo with
  | nil => by_cases hv : v = Memory.unlisted <;> simp [Memory.write, Memory.read, hv]
  | cons c rest ih =>
    obtain ⟨k, b⟩ := c
    simp only [Memory.wfFrom, Bool.and_eq_true, decide_eq_true_eq] at h
    obtain ⟨⟨⟨_, _⟩, _⟩, hr⟩ := h
    have above : ∀ (m : List Host.Cell) (lo : Nat), Memory.wfFrom lo m = true → a < lo →
        Memory.read m a = Memory.unlisted := by
      intro m
      induction m with
      | nil => intros; rfl
      | cons c rest ih =>
        intro lo h hlt
        simp only [Memory.wfFrom, Bool.and_eq_true, decide_eq_true_eq] at h
        have hne : a ≠ c.1 := by omega
        simpa [Memory.read, hne] using ih (c.1 + 1) h.2 (by omega)
    unfold Memory.write
    split
    · split
      · rename_i hlt hv
        have hne : a ≠ k := by omega
        simp [Memory.read, hne, hv, above rest (k + 1) hr (by omega)]
      · simp [Memory.read]
    · split
      · split
        · rename_i hk hv
          rw [hv, above rest (k + 1) hr (by omega)]
        · simp [Memory.read]
      · rename_i _ hk
        simpa [Memory.read, hk] using ih _ hr

/-- A write leaves every other address as it was. -/
theorem Memory.read_write_other (m : List Host.Cell) (a x : Nat) (v : Byte) (h : x ≠ a) :
    Memory.read (Memory.write m a v) x = Memory.read m x := by
  induction m with
  | nil => by_cases hv : v = Memory.unlisted <;> simp [Memory.write, Memory.read, hv, h]
  | cons c rest ih =>
    obtain ⟨k, b⟩ := c
    unfold Memory.write
    split
    · split <;> simp [Memory.read, h]
    · split
      · rename_i hk
        subst hk
        split <;> simp [Memory.read, h]
      · simp [Memory.read, ih]

/-! ## The canonical form -/

/-- A memory whose addresses start higher also starts at any lower bound. -/
theorem Memory.wfFrom_mono {lo lo' : Nat} {m : List Host.Cell} (h : Memory.wfFrom lo' m = true) (hle : lo ≤ lo') :
    Memory.wfFrom lo m = true := by
  cases m with
  | nil => rfl
  | cons c rest =>
    simp only [Memory.wfFrom, Bool.and_eq_true, decide_eq_true_eq] at h ⊢
    exact ⟨⟨⟨by omega, h.1.1.2⟩, h.1.2⟩, h.2⟩

/-- A write at an address of the address space keeps the canonical form. -/
theorem Memory.wfFrom_write {lo : Nat} {m : List Host.Cell} {a : Nat} {v : Byte} (h : Memory.wfFrom lo m = true)
    (hlo : lo ≤ a) (ha : a < 2 ^ 20) : Memory.wfFrom lo (Memory.write m a v) = true := by
  induction m generalizing lo with
  | nil => by_cases hv : v = Memory.unlisted <;> simp [Memory.write, Memory.wfFrom, hv, hlo]; omega
  | cons c rest ih =>
    obtain ⟨k, b⟩ := c
    have h' := h
    simp only [Memory.wfFrom, Bool.and_eq_true, decide_eq_true_eq, bne_iff_ne] at h
    obtain ⟨⟨⟨h1, h2⟩, h3⟩, h4⟩ := h
    unfold Memory.write
    split
    · split
      · exact h'
      · rename_i hlt hv
        simp only [Memory.wfFrom, Bool.and_eq_true, decide_eq_true_eq, bne_iff_ne]
        exact ⟨⟨⟨hlo, ha⟩, hv⟩, ⟨⟨by omega, h2⟩, h3⟩, h4⟩
    · split
      · split
        · exact Memory.wfFrom_mono h4 (by omega)
        · rename_i hk hv
          subst hk
          simp only [Memory.wfFrom, Bool.and_eq_true, decide_eq_true_eq, bne_iff_ne]
          exact ⟨⟨⟨h1, h2⟩, hv⟩, h4⟩
      · simp only [Memory.wfFrom, Bool.and_eq_true, decide_eq_true_eq, bne_iff_ne]
        exact ⟨⟨⟨h1, h2⟩, h3⟩, ih h4 (by omega)⟩

/-- A write at a physical address keeps the canonical form. -/
theorem Memory.wf_write {m : List Host.Cell} (h : Memory.wf m = true) (p : PhysAddr) (v : Byte) :
    Memory.wf (Memory.write m p.toNat v) = true :=
  Memory.wfFrom_write h (Nat.zero_le _) p.isLt

/-- An address below all listed ones reads as an unlisted one. -/
theorem Memory.read_below {lo a : Nat} {m : List Host.Cell} (h : Memory.wfFrom lo m = true) (ha : a < lo) :
    Memory.read m a = Memory.unlisted := by
  induction m generalizing lo with
  | nil => rfl
  | cons c rest ih =>
    simp only [Memory.wfFrom, Bool.and_eq_true, decide_eq_true_eq] at h
    have hne : a ≠ c.1 := by omega
    simpa [Memory.read, hne] using ih h.2 (by omega)

/-- The form is canonical: memories in it that read alike at every address are equal. -/
theorem Memory.ext_of_read {m n : List Host.Cell} {lo : Nat} (hm : Memory.wfFrom lo m = true)
    (hn : Memory.wfFrom lo n = true) (h : ∀ a, Memory.read m a = Memory.read n a) : m = n := by
  induction m generalizing lo n with
  | nil =>
    cases n with
    | nil => rfl
    | cons c rest =>
      simp only [Memory.wfFrom, Bool.and_eq_true, bne_iff_ne] at hn
      have := h c.1
      simp only [Memory.read, if_true] at this
      exact absurd this.symm hn.1.2
  | cons c rest ih =>
    obtain ⟨k, b⟩ := c
    cases n with
    | nil =>
      simp only [Memory.wfFrom, Bool.and_eq_true, bne_iff_ne] at hm
      have := h k
      simp only [Memory.read, if_true] at this
      exact absurd this hm.1.2
    | cons d rest' =>
      obtain ⟨k', b'⟩ := d
      simp only [Memory.wfFrom, Bool.and_eq_true, decide_eq_true_eq, bne_iff_ne] at hm hn
      have hk : k = k' := by
        rcases Nat.lt_trichotomy k k' with hlt | heq | hgt
        · have := h k
          simp only [Memory.read, if_true, if_neg (Nat.ne_of_lt hlt)] at this
          rw [Memory.read_below hn.2 (by omega)] at this
          exact absurd this hm.1.2
        · exact heq
        · have := h k'
          simp only [Memory.read, if_true, if_neg (Nat.ne_of_lt hgt)] at this
          rw [Memory.read_below hm.2 (by omega)] at this
          exact absurd this.symm hn.1.2
      subst hk
      have hb : b = b' := by simpa [Memory.read] using h k
      subst hb
      congr 1
      refine ih hm.2 hn.2 fun a => ?_
      by_cases ha : a = k
      · subst ha
        rw [Memory.read_below hm.2 (by omega), Memory.read_below hn.2 (by omega)]
      · simpa [Memory.read, ha] using h a

/-- The memory after reset has the canonical form. -/
theorem reset_mem_wf : Memory.wf State.reset.mem = true := rfl

/-! ## Bytes and words through a segment -/

/-- Two consecutive offsets are two addresses, also where the offset wraps (R83, R87). -/
theorem phys_succ_ne (seg off : Word) : phys seg (off + 1) ≠ phys seg off := by
  simp only [phys, ne_eq, BitVec.add_right_inj]
  intro h
  have := congrArg BitVec.toNat h
  have := off.isLt
  simp [BitVec.toNat_setWidth, BitVec.toNat_add] at *
  omega

/-- `phys` as numbers: segment times 16 plus offset, modulo 2^20 (R83). -/
theorem phys_toNat (seg off : Word) : (phys seg off).toNat = (seg.toNat * 16 + off.toNat) % 2 ^ 20 := by
  have h1 := seg.isLt
  have h2 := off.isLt
  simp [phys, BitVec.toNat_add, BitVec.toNat_mul, BitVec.toNat_setWidth]

/-- A word of two bytes as a number. -/
theorem toNat_mkWord (h l : Byte) : (mkWord h l).toNat = h.toNat * 256 + l.toNat := by
  have hl := l.isLt
  show (h ++ l).toNat = _
  rw [BitVec.toNat_append, ← Nat.shiftLeft_add_eq_or_of_lt hl, Nat.shiftLeft_eq]

/-- The low byte as a number. -/
theorem toNat_loByte (x : Word) : (loByte x).toNat = x.toNat % 256 := by
  simp [loByte, BitVec.toNat_setWidth]

/-- The high byte as a number. -/
theorem toNat_hiByte (x : Word) : (hiByte x).toNat = x.toNat / 256 := by
  have := x.isLt
  simp only [hiByte, BitVec.extractLsb'_toNat, Nat.shiftRight_eq_div_pow]
  omega

/-- A word is its high and low byte. -/
@[simp] theorem mkWord_hi_lo (x : Word) : mkWord (hiByte x) (loByte x) = x := by
  apply BitVec.eq_of_toNat_eq
  rw [toNat_mkWord, toNat_hiByte, toNat_loByte]
  omega

/-- The low byte of a word made of two bytes. -/
@[simp] theorem loByte_mkWord (h l : Byte) : loByte (mkWord h l) = l := by
  have := l.isLt
  apply BitVec.eq_of_toNat_eq
  rw [toNat_loByte, toNat_mkWord]
  omega

/-- The high byte of a word made of two bytes. -/
@[simp] theorem hiByte_mkWord (h l : Byte) : hiByte (mkWord h l) = h := by
  have := l.isLt
  apply BitVec.eq_of_toNat_eq
  rw [toNat_hiByte, toNat_mkWord]
  omega

/-- The byte at a physical address after `Write8`. -/
theorem State.read_writeByte {s : State} (hs : Memory.wf s.mem = true) (seg off : Word) (v : Byte) (a : Nat) :
    Memory.read (s.writeByte seg off v).mem a = if a = (phys seg off).toNat then v else Memory.read s.mem a := by
  by_cases h : a = (phys seg off).toNat
  · subst h; simpa [State.writeByte] using Memory.read_write_same _ _ _ _ hs
  · simpa [State.writeByte, h] using Memory.read_write_other _ _ _ _ h

/-- `Write8` keeps the canonical form. -/
theorem State.writeByte_wf {s : State} (h : Memory.wf s.mem = true) (seg off : Word) (v : Byte) :
    Memory.wf (s.writeByte seg off v).mem = true :=
  Memory.wf_write h _ _

/-- `Write16` keeps the canonical form. -/
theorem State.writeWord_wf {s : State} (h : Memory.wf s.mem = true) (seg off v : Word) :
    Memory.wf (s.writeWord seg off v).mem = true :=
  State.writeByte_wf (State.writeByte_wf h _ _ _) _ _ _

/-- `Write[W]` keeps the canonical form. -/
theorem State.writeMem_wf {s : State} (h : Memory.wf s.mem = true) (w : Width) (seg off : Word) (v : BitVec w.bits) :
    Memory.wf (s.writeMem w seg off v).mem = true := by
  cases w
  · exact State.writeByte_wf h _ _ _
  · exact State.writeWord_wf h _ _ _

/-- `Push16` keeps the canonical form. -/
theorem State.push_wf {s : State} (h : Memory.wf s.mem = true) (v : Word) : Memory.wf (s.push v).mem = true :=
  State.writeWord_wf (s := { s with sp := s.sp - 2 }) h _ _ _

/-- The byte at a physical address after `Write16`: low byte at the offset, high byte at the next one (R87). -/
theorem State.read_writeWord {s : State} (hs : Memory.wf s.mem = true) (seg off v : Word) (a : Nat) :
    Memory.read (s.writeWord seg off v).mem a =
      if a = (phys seg (off + 1)).toNat then hiByte v
      else if a = (phys seg off).toNat then loByte v else Memory.read s.mem a := by
  rw [State.writeWord, State.read_writeByte (State.writeByte_wf hs _ _ _), State.read_writeByte hs]

/-- A word written reads back (R87). -/
theorem State.readWord_writeWord {s : State} (hs : Memory.wf s.mem = true) (seg off v : Word) :
    (s.writeWord seg off v).readWord seg off = v := by
  have hne : (phys seg off).toNat ≠ (phys seg (off + 1)).toNat :=
    fun h => phys_succ_ne seg off (BitVec.eq_of_toNat_eq h.symm)
  simp only [State.readWord, State.readByte, State.read_writeWord hs, if_neg hne, if_true]
  exact mkWord_hi_lo v

/-- An operand written reads back (R145). -/
theorem State.readMem_writeMem {s : State} (hs : Memory.wf s.mem = true) (w : Width) (seg off : Word)
    (v : BitVec w.bits) : (s.writeMem w seg off v).readMem w seg off = v := by
  cases w
  · simp [State.readMem, State.writeMem, State.readByte, State.read_writeByte hs]
  · exact State.readWord_writeWord hs seg off v

/-- `Write[W]` leaves every byte outside the operand as it was (R87, R145). -/
theorem State.read_writeMem_other {s : State} (w : Width) (seg off : Word) (v : BitVec w.bits) (a : Nat)
    (ha : ∀ k, k < w.bytes → a ≠ (phys seg (off + BitVec.ofNat 16 k)).toNat) :
    Memory.read (s.writeMem w seg off v).mem a = Memory.read s.mem a := by
  cases w
  · have h0 := ha 0 (by decide)
    simp at h0
    simpa [State.writeMem, State.writeByte] using Memory.read_write_other _ _ _ _ h0
  · have h0 := ha 0 (by decide)
    have h1 := ha 1 (by decide)
    simp at h0
    simp only [State.writeMem, State.writeWord, State.writeByte]
    rw [Memory.read_write_other _ _ _ _ (by simpa using h1), Memory.read_write_other _ _ _ _ h0]

end Sys2Proof.Machine
end

