-- ==== Sys2Proof/Laws/State.lean ====
section
/-! SUPPORT. For each named update of the state, one lemma per field that it leaves as it is, and the value of each
plain field that it writes. No later proof unfolds a record update. -/

namespace Sys2Proof.Machine

variable (s : State)

/-! ### `setReg16` -/

@[simp] theorem State.setReg16_ps (r : Reg) (v : Word) : (s.setReg16 r v).ps = s.ps := by cases r <;> rfl
@[simp] theorem State.setReg16_ss (r : Reg) (v : Word) : (s.setReg16 r v).ss = s.ss := by cases r <;> rfl
@[simp] theorem State.setReg16_ds0 (r : Reg) (v : Word) : (s.setReg16 r v).ds0 = s.ds0 := by cases r <;> rfl
@[simp] theorem State.setReg16_ds1 (r : Reg) (v : Word) : (s.setReg16 r v).ds1 = s.ds1 := by cases r <;> rfl
@[simp] theorem State.setReg16_pc (r : Reg) (v : Word) : (s.setReg16 r v).pc = s.pc := by cases r <;> rfl
@[simp] theorem State.setReg16_psw (r : Reg) (v : Word) : (s.setReg16 r v).psw = s.psw := by cases r <;> rfl
@[simp] theorem State.setReg16_mdWe (r : Reg) (v : Word) : (s.setReg16 r v).mdWe = s.mdWe := by cases r <;> rfl
@[simp] theorem State.setReg16_nmiPending (r : Reg) (v : Word) :
    (s.setReg16 r v).nmiPending = s.nmiPending := by cases r <;> rfl
@[simp] theorem State.setReg16_inhibitAll (r : Reg) (v : Word) :
    (s.setReg16 r v).inhibitAll = s.inhibitAll := by cases r <;> rfl
@[simp] theorem State.setReg16_inhibitInt (r : Reg) (v : Word) :
    (s.setReg16 r v).inhibitInt = s.inhibitInt := by cases r <;> rfl
@[simp] theorem State.setReg16_halted (r : Reg) (v : Word) : (s.setReg16 r v).halted = s.halted := by cases r <;> rfl
@[simp] theorem State.setReg16_haltLock (r : Reg) (v : Word) :
    (s.setReg16 r v).haltLock = s.haltLock := by cases r <;> rfl
@[simp] theorem State.setReg16_suspended (r : Reg) (v : Word) :
    (s.setReg16 r v).suspended = s.suspended := by cases r <;> rfl
@[simp] theorem State.setReg16_pfx (r : Reg) (v : Word) : (s.setReg16 r v).pfx = s.pfx := by cases r <;> rfl
@[simp] theorem State.setReg16_queue (r : Reg) (v : Word) : (s.setReg16 r v).queue = s.queue := by cases r <;> rfl
@[simp] theorem State.setReg16_prefetchPlan (r : Reg) (v : Word) :
    (s.setReg16 r v).prefetchPlan = s.prefetchPlan := by cases r <;> rfl
@[simp] theorem State.setReg16_queueBefore (r : Reg) (v : Word) :
    (s.setReg16 r v).queueBefore = s.queueBefore := by cases r <;> rfl
@[simp] theorem State.setReg16_pins (r : Reg) (v : Word) : (s.setReg16 r v).pins = s.pins := by cases r <;> rfl
@[simp] theorem State.setReg16_inputs (r : Reg) (v : Word) : (s.setReg16 r v).inputs = s.inputs := by cases r <;> rfl
@[simp] theorem State.setReg16_ioIn (r : Reg) (v : Word) : (s.setReg16 r v).ioIn = s.ioIn := by cases r <;> rfl
@[simp] theorem State.setReg16_ioCtr (r : Reg) (v : Word) : (s.setReg16 r v).ioCtr = s.ioCtr := by cases r <;> rfl
@[simp] theorem State.setReg16_ioOut (r : Reg) (v : Word) : (s.setReg16 r v).ioOut = s.ioOut := by cases r <;> rfl
@[simp] theorem State.setReg16_freeCtr (r : Reg) (v : Word) : (s.setReg16 r v).freeCtr = s.freeCtr := by cases r <;> rfl
@[simp] theorem State.setReg16_mem (r : Reg) (v : Word) : (s.setReg16 r v).mem = s.mem := by cases r <;> rfl

/-! ### `setReg8` -/

@[simp] theorem State.setReg8_sp (r : Reg) (v : Byte) : (s.setReg8 r v).sp = s.sp := by cases r <;> rfl
@[simp] theorem State.setReg8_bp (r : Reg) (v : Byte) : (s.setReg8 r v).bp = s.bp := by cases r <;> rfl
@[simp] theorem State.setReg8_ix (r : Reg) (v : Byte) : (s.setReg8 r v).ix = s.ix := by cases r <;> rfl
@[simp] theorem State.setReg8_iy (r : Reg) (v : Byte) : (s.setReg8 r v).iy = s.iy := by cases r <;> rfl
@[simp] theorem State.setReg8_ps (r : Reg) (v : Byte) : (s.setReg8 r v).ps = s.ps := by cases r <;> rfl
@[simp] theorem State.setReg8_ss (r : Reg) (v : Byte) : (s.setReg8 r v).ss = s.ss := by cases r <;> rfl
@[simp] theorem State.setReg8_ds0 (r : Reg) (v : Byte) : (s.setReg8 r v).ds0 = s.ds0 := by cases r <;> rfl
@[simp] theorem State.setReg8_ds1 (r : Reg) (v : Byte) : (s.setReg8 r v).ds1 = s.ds1 := by cases r <;> rfl
@[simp] theorem State.setReg8_pc (r : Reg) (v : Byte) : (s.setReg8 r v).pc = s.pc := by cases r <;> rfl
@[simp] theorem State.setReg8_psw (r : Reg) (v : Byte) : (s.setReg8 r v).psw = s.psw := by cases r <;> rfl
@[simp] theorem State.setReg8_mdWe (r : Reg) (v : Byte) : (s.setReg8 r v).mdWe = s.mdWe := by cases r <;> rfl
@[simp] theorem State.setReg8_nmiPending (r : Reg) (v : Byte) :
    (s.setReg8 r v).nmiPending = s.nmiPending := by cases r <;> rfl
@[simp] theorem State.setReg8_inhibitAll (r : Reg) (v : Byte) :
    (s.setReg8 r v).inhibitAll = s.inhibitAll := by cases r <;> rfl
@[simp] theorem State.setReg8_inhibitInt (r : Reg) (v : Byte) :
    (s.setReg8 r v).inhibitInt = s.inhibitInt := by cases r <;> rfl
@[simp] theorem State.setReg8_halted (r : Reg) (v : Byte) : (s.setReg8 r v).halted = s.halted := by cases r <;> rfl
@[simp] theorem State.setReg8_haltLock (r : Reg) (v : Byte) :
    (s.setReg8 r v).haltLock = s.haltLock := by cases r <;> rfl
@[simp] theorem State.setReg8_suspended (r : Reg) (v : Byte) :
    (s.setReg8 r v).suspended = s.suspended := by cases r <;> rfl
@[simp] theorem State.setReg8_pfx (r : Reg) (v : Byte) : (s.setReg8 r v).pfx = s.pfx := by cases r <;> rfl
@[simp] theorem State.setReg8_queue (r : Reg) (v : Byte) : (s.setReg8 r v).queue = s.queue := by cases r <;> rfl
@[simp] theorem State.setReg8_prefetchPlan (r : Reg) (v : Byte) :
    (s.setReg8 r v).prefetchPlan = s.prefetchPlan := by cases r <;> rfl
@[simp] theorem State.setReg8_queueBefore (r : Reg) (v : Byte) :
    (s.setReg8 r v).queueBefore = s.queueBefore := by cases r <;> rfl
@[simp] theorem State.setReg8_pins (r : Reg) (v : Byte) : (s.setReg8 r v).pins = s.pins := by cases r <;> rfl
@[simp] theorem State.setReg8_inputs (r : Reg) (v : Byte) : (s.setReg8 r v).inputs = s.inputs := by cases r <;> rfl
@[simp] theorem State.setReg8_ioIn (r : Reg) (v : Byte) : (s.setReg8 r v).ioIn = s.ioIn := by cases r <;> rfl
@[simp] theorem State.setReg8_ioCtr (r : Reg) (v : Byte) : (s.setReg8 r v).ioCtr = s.ioCtr := by cases r <;> rfl
@[simp] theorem State.setReg8_ioOut (r : Reg) (v : Byte) : (s.setReg8 r v).ioOut = s.ioOut := by cases r <;> rfl
@[simp] theorem State.setReg8_freeCtr (r : Reg) (v : Byte) : (s.setReg8 r v).freeCtr = s.freeCtr := by cases r <;> rfl
@[simp] theorem State.setReg8_mem (r : Reg) (v : Byte) : (s.setReg8 r v).mem = s.mem := by cases r <;> rfl

/-! ### `setReg` -/

@[simp] theorem State.setReg_ps (w : Width) (r : Reg) (v : BitVec w.bits) :
    (s.setReg w r v).ps = s.ps := by cases w <;> cases r <;> rfl
@[simp] theorem State.setReg_ss (w : Width) (r : Reg) (v : BitVec w.bits) :
    (s.setReg w r v).ss = s.ss := by cases w <;> cases r <;> rfl
@[simp] theorem State.setReg_ds0 (w : Width) (r : Reg) (v : BitVec w.bits) :
    (s.setReg w r v).ds0 = s.ds0 := by cases w <;> cases r <;> rfl
@[simp] theorem State.setReg_ds1 (w : Width) (r : Reg) (v : BitVec w.bits) :
    (s.setReg w r v).ds1 = s.ds1 := by cases w <;> cases r <;> rfl
@[simp] theorem State.setReg_pc (w : Width) (r : Reg) (v : BitVec w.bits) :
    (s.setReg w r v).pc = s.pc := by cases w <;> cases r <;> rfl
@[simp] theorem State.setReg_psw (w : Width) (r : Reg) (v : BitVec w.bits) :
    (s.setReg w r v).psw = s.psw := by cases w <;> cases r <;> rfl
@[simp] theorem State.setReg_mdWe (w : Width) (r : Reg) (v : BitVec w.bits) :
    (s.setReg w r v).mdWe = s.mdWe := by cases w <;> cases r <;> rfl
@[simp] theorem State.setReg_nmiPending (w : Width) (r : Reg) (v : BitVec w.bits) :
    (s.setReg w r v).nmiPending = s.nmiPending := by cases w <;> cases r <;> rfl
@[simp] theorem State.setReg_inhibitAll (w : Width) (r : Reg) (v : BitVec w.bits) :
    (s.setReg w r v).inhibitAll = s.inhibitAll := by cases w <;> cases r <;> rfl
@[simp] theorem State.setReg_inhibitInt (w : Width) (r : Reg) (v : BitVec w.bits) :
    (s.setReg w r v).inhibitInt = s.inhibitInt := by cases w <;> cases r <;> rfl
@[simp] theorem State.setReg_halted (w : Width) (r : Reg) (v : BitVec w.bits) :
    (s.setReg w r v).halted = s.halted := by cases w <;> cases r <;> rfl
@[simp] theorem State.setReg_haltLock (w : Width) (r : Reg) (v : BitVec w.bits) :
    (s.setReg w r v).haltLock = s.haltLock := by cases w <;> cases r <;> rfl
@[simp] theorem State.setReg_suspended (w : Width) (r : Reg) (v : BitVec w.bits) :
    (s.setReg w r v).suspended = s.suspended := by cases w <;> cases r <;> rfl
@[simp] theorem State.setReg_pfx (w : Width) (r : Reg) (v : BitVec w.bits) :
    (s.setReg w r v).pfx = s.pfx := by cases w <;> cases r <;> rfl
@[simp] theorem State.setReg_queue (w : Width) (r : Reg) (v : BitVec w.bits) :
    (s.setReg w r v).queue = s.queue := by cases w <;> cases r <;> rfl
@[simp] theorem State.setReg_prefetchPlan (w : Width) (r : Reg) (v : BitVec w.bits) :
    (s.setReg w r v).prefetchPlan = s.prefetchPlan := by cases w <;> cases r <;> rfl
@[simp] theorem State.setReg_queueBefore (w : Width) (r : Reg) (v : BitVec w.bits) :
    (s.setReg w r v).queueBefore = s.queueBefore := by cases w <;> cases r <;> rfl
@[simp] theorem State.setReg_pins (w : Width) (r : Reg) (v : BitVec w.bits) :
    (s.setReg w r v).pins = s.pins := by cases w <;> cases r <;> rfl
@[simp] theorem State.setReg_inputs (w : Width) (r : Reg) (v : BitVec w.bits) :
    (s.setReg w r v).inputs = s.inputs := by cases w <;> cases r <;> rfl
@[simp] theorem State.setReg_ioIn (w : Width) (r : Reg) (v : BitVec w.bits) :
    (s.setReg w r v).ioIn = s.ioIn := by cases w <;> cases r <;> rfl
@[simp] theorem State.setReg_ioCtr (w : Width) (r : Reg) (v : BitVec w.bits) :
    (s.setReg w r v).ioCtr = s.ioCtr := by cases w <;> cases r <;> rfl
@[simp] theorem State.setReg_ioOut (w : Width) (r : Reg) (v : BitVec w.bits) :
    (s.setReg w r v).ioOut = s.ioOut := by cases w <;> cases r <;> rfl
@[simp] theorem State.setReg_freeCtr (w : Width) (r : Reg) (v : BitVec w.bits) :
    (s.setReg w r v).freeCtr = s.freeCtr := by cases w <;> cases r <;> rfl
@[simp] theorem State.setReg_mem (w : Width) (r : Reg) (v : BitVec w.bits) :
    (s.setReg w r v).mem = s.mem := by cases w <;> cases r <;> rfl

/-! ### `setSreg` -/

@[simp] theorem State.setSreg_aw (sr : Sreg) (v : Word) : (s.setSreg sr v).aw = s.aw := by cases sr <;> rfl
@[simp] theorem State.setSreg_bw (sr : Sreg) (v : Word) : (s.setSreg sr v).bw = s.bw := by cases sr <;> rfl
@[simp] theorem State.setSreg_cw (sr : Sreg) (v : Word) : (s.setSreg sr v).cw = s.cw := by cases sr <;> rfl
@[simp] theorem State.setSreg_dw (sr : Sreg) (v : Word) : (s.setSreg sr v).dw = s.dw := by cases sr <;> rfl
@[simp] theorem State.setSreg_sp (sr : Sreg) (v : Word) : (s.setSreg sr v).sp = s.sp := by cases sr <;> rfl
@[simp] theorem State.setSreg_bp (sr : Sreg) (v : Word) : (s.setSreg sr v).bp = s.bp := by cases sr <;> rfl
@[simp] theorem State.setSreg_ix (sr : Sreg) (v : Word) : (s.setSreg sr v).ix = s.ix := by cases sr <;> rfl
@[simp] theorem State.setSreg_iy (sr : Sreg) (v : Word) : (s.setSreg sr v).iy = s.iy := by cases sr <;> rfl
@[simp] theorem State.setSreg_pc (sr : Sreg) (v : Word) : (s.setSreg sr v).pc = s.pc := by cases sr <;> rfl
@[simp] theorem State.setSreg_psw (sr : Sreg) (v : Word) : (s.setSreg sr v).psw = s.psw := by cases sr <;> rfl
@[simp] theorem State.setSreg_mdWe (sr : Sreg) (v : Word) : (s.setSreg sr v).mdWe = s.mdWe := by cases sr <;> rfl
@[simp] theorem State.setSreg_nmiPending (sr : Sreg) (v : Word) :
    (s.setSreg sr v).nmiPending = s.nmiPending := by cases sr <;> rfl
@[simp] theorem State.setSreg_inhibitAll (sr : Sreg) (v : Word) :
    (s.setSreg sr v).inhibitAll = s.inhibitAll := by cases sr <;> rfl
@[simp] theorem State.setSreg_inhibitInt (sr : Sreg) (v : Word) :
    (s.setSreg sr v).inhibitInt = s.inhibitInt := by cases sr <;> rfl
@[simp] theorem State.setSreg_halted (sr : Sreg) (v : Word) : (s.setSreg sr v).halted = s.halted := by cases sr <;> rfl
@[simp] theorem State.setSreg_haltLock (sr : Sreg) (v : Word) :
    (s.setSreg sr v).haltLock = s.haltLock := by cases sr <;> rfl
@[simp] theorem State.setSreg_suspended (sr : Sreg) (v : Word) :
    (s.setSreg sr v).suspended = s.suspended := by cases sr <;> rfl
@[simp] theorem State.setSreg_pfx (sr : Sreg) (v : Word) : (s.setSreg sr v).pfx = s.pfx := by cases sr <;> rfl
@[simp] theorem State.setSreg_queue (sr : Sreg) (v : Word) : (s.setSreg sr v).queue = s.queue := by cases sr <;> rfl
@[simp] theorem State.setSreg_prefetchPlan (sr : Sreg) (v : Word) :
    (s.setSreg sr v).prefetchPlan = s.prefetchPlan := by cases sr <;> rfl
@[simp] theorem State.setSreg_queueBefore (sr : Sreg) (v : Word) :
    (s.setSreg sr v).queueBefore = s.queueBefore := by cases sr <;> rfl
@[simp] theorem State.setSreg_pins (sr : Sreg) (v : Word) : (s.setSreg sr v).pins = s.pins := by cases sr <;> rfl
@[simp] theorem State.setSreg_inputs (sr : Sreg) (v : Word) : (s.setSreg sr v).inputs = s.inputs := by cases sr <;> rfl
@[simp] theorem State.setSreg_ioIn (sr : Sreg) (v : Word) : (s.setSreg sr v).ioIn = s.ioIn := by cases sr <;> rfl
@[simp] theorem State.setSreg_ioCtr (sr : Sreg) (v : Word) : (s.setSreg sr v).ioCtr = s.ioCtr := by cases sr <;> rfl
@[simp] theorem State.setSreg_ioOut (sr : Sreg) (v : Word) : (s.setSreg sr v).ioOut = s.ioOut := by cases sr <;> rfl
@[simp] theorem State.setSreg_freeCtr (sr : Sreg) (v : Word) :
    (s.setSreg sr v).freeCtr = s.freeCtr := by cases sr <;> rfl
@[simp] theorem State.setSreg_mem (sr : Sreg) (v : Word) : (s.setSreg sr v).mem = s.mem := by cases sr <;> rfl

/-! ### `setAl` -/

@[simp] theorem State.setAl_aw (v : Byte) : (s.setAl v).aw = mkWord (hiByte s.aw) v := rfl
@[simp] theorem State.setAl_bw (v : Byte) : (s.setAl v).bw = s.bw := rfl
@[simp] theorem State.setAl_cw (v : Byte) : (s.setAl v).cw = s.cw := rfl
@[simp] theorem State.setAl_dw (v : Byte) : (s.setAl v).dw = s.dw := rfl
@[simp] theorem State.setAl_sp (v : Byte) : (s.setAl v).sp = s.sp := rfl
@[simp] theorem State.setAl_bp (v : Byte) : (s.setAl v).bp = s.bp := rfl
@[simp] theorem State.setAl_ix (v : Byte) : (s.setAl v).ix = s.ix := rfl
@[simp] theorem State.setAl_iy (v : Byte) : (s.setAl v).iy = s.iy := rfl
@[simp] theorem State.setAl_ps (v : Byte) : (s.setAl v).ps = s.ps := rfl
@[simp] theorem State.setAl_ss (v : Byte) : (s.setAl v).ss = s.ss := rfl
@[simp] theorem State.setAl_ds0 (v : Byte) : (s.setAl v).ds0 = s.ds0 := rfl
@[simp] theorem State.setAl_ds1 (v : Byte) : (s.setAl v).ds1 = s.ds1 := rfl
@[simp] theorem State.setAl_pc (v : Byte) : (s.setAl v).pc = s.pc := rfl
@[simp] theorem State.setAl_psw (v : Byte) : (s.setAl v).psw = s.psw := rfl
@[simp] theorem State.setAl_mdWe (v : Byte) : (s.setAl v).mdWe = s.mdWe := rfl
@[simp] theorem State.setAl_nmiPending (v : Byte) : (s.setAl v).nmiPending = s.nmiPending := rfl
@[simp] theorem State.setAl_inhibitAll (v : Byte) : (s.setAl v).inhibitAll = s.inhibitAll := rfl
@[simp] theorem State.setAl_inhibitInt (v : Byte) : (s.setAl v).inhibitInt = s.inhibitInt := rfl
@[simp] theorem State.setAl_halted (v : Byte) : (s.setAl v).halted = s.halted := rfl
@[simp] theorem State.setAl_haltLock (v : Byte) : (s.setAl v).haltLock = s.haltLock := rfl
@[simp] theorem State.setAl_suspended (v : Byte) : (s.setAl v).suspended = s.suspended := rfl
@[simp] theorem State.setAl_pfx (v : Byte) : (s.setAl v).pfx = s.pfx := rfl
@[simp] theorem State.setAl_queue (v : Byte) : (s.setAl v).queue = s.queue := rfl
@[simp] theorem State.setAl_prefetchPlan (v : Byte) : (s.setAl v).prefetchPlan = s.prefetchPlan := rfl
@[simp] theorem State.setAl_queueBefore (v : Byte) : (s.setAl v).queueBefore = s.queueBefore := rfl
@[simp] theorem State.setAl_pins (v : Byte) : (s.setAl v).pins = s.pins := rfl
@[simp] theorem State.setAl_inputs (v : Byte) : (s.setAl v).inputs = s.inputs := rfl
@[simp] theorem State.setAl_ioIn (v : Byte) : (s.setAl v).ioIn = s.ioIn := rfl
@[simp] theorem State.setAl_ioCtr (v : Byte) : (s.setAl v).ioCtr = s.ioCtr := rfl
@[simp] theorem State.setAl_ioOut (v : Byte) : (s.setAl v).ioOut = s.ioOut := rfl
@[simp] theorem State.setAl_freeCtr (v : Byte) : (s.setAl v).freeCtr = s.freeCtr := rfl
@[simp] theorem State.setAl_mem (v : Byte) : (s.setAl v).mem = s.mem := rfl

/-! ### `setAh` -/

@[simp] theorem State.setAh_aw (v : Byte) : (s.setAh v).aw = mkWord v (loByte s.aw) := rfl
@[simp] theorem State.setAh_bw (v : Byte) : (s.setAh v).bw = s.bw := rfl
@[simp] theorem State.setAh_cw (v : Byte) : (s.setAh v).cw = s.cw := rfl
@[simp] theorem State.setAh_dw (v : Byte) : (s.setAh v).dw = s.dw := rfl
@[simp] theorem State.setAh_sp (v : Byte) : (s.setAh v).sp = s.sp := rfl
@[simp] theorem State.setAh_bp (v : Byte) : (s.setAh v).bp = s.bp := rfl
@[simp] theorem State.setAh_ix (v : Byte) : (s.setAh v).ix = s.ix := rfl
@[simp] theorem State.setAh_iy (v : Byte) : (s.setAh v).iy = s.iy := rfl
@[simp] theorem State.setAh_ps (v : Byte) : (s.setAh v).ps = s.ps := rfl
@[simp] theorem State.setAh_ss (v : Byte) : (s.setAh v).ss = s.ss := rfl
@[simp] theorem State.setAh_ds0 (v : Byte) : (s.setAh v).ds0 = s.ds0 := rfl
@[simp] theorem State.setAh_ds1 (v : Byte) : (s.setAh v).ds1 = s.ds1 := rfl
@[simp] theorem State.setAh_pc (v : Byte) : (s.setAh v).pc = s.pc := rfl
@[simp] theorem State.setAh_psw (v : Byte) : (s.setAh v).psw = s.psw := rfl
@[simp] theorem State.setAh_mdWe (v : Byte) : (s.setAh v).mdWe = s.mdWe := rfl
@[simp] theorem State.setAh_nmiPending (v : Byte) : (s.setAh v).nmiPending = s.nmiPending := rfl
@[simp] theorem State.setAh_inhibitAll (v : Byte) : (s.setAh v).inhibitAll = s.inhibitAll := rfl
@[simp] theorem State.setAh_inhibitInt (v : Byte) : (s.setAh v).inhibitInt = s.inhibitInt := rfl
@[simp] theorem State.setAh_halted (v : Byte) : (s.setAh v).halted = s.halted := rfl
@[simp] theorem State.setAh_haltLock (v : Byte) : (s.setAh v).haltLock = s.haltLock := rfl
@[simp] theorem State.setAh_suspended (v : Byte) : (s.setAh v).suspended = s.suspended := rfl
@[simp] theorem State.setAh_pfx (v : Byte) : (s.setAh v).pfx = s.pfx := rfl
@[simp] theorem State.setAh_queue (v : Byte) : (s.setAh v).queue = s.queue := rfl
@[simp] theorem State.setAh_prefetchPlan (v : Byte) : (s.setAh v).prefetchPlan = s.prefetchPlan := rfl
@[simp] theorem State.setAh_queueBefore (v : Byte) : (s.setAh v).queueBefore = s.queueBefore := rfl
@[simp] theorem State.setAh_pins (v : Byte) : (s.setAh v).pins = s.pins := rfl
@[simp] theorem State.setAh_inputs (v : Byte) : (s.setAh v).inputs = s.inputs := rfl
@[simp] theorem State.setAh_ioIn (v : Byte) : (s.setAh v).ioIn = s.ioIn := rfl
@[simp] theorem State.setAh_ioCtr (v : Byte) : (s.setAh v).ioCtr = s.ioCtr := rfl
@[simp] theorem State.setAh_ioOut (v : Byte) : (s.setAh v).ioOut = s.ioOut := rfl
@[simp] theorem State.setAh_freeCtr (v : Byte) : (s.setAh v).freeCtr = s.freeCtr := rfl
@[simp] theorem State.setAh_mem (v : Byte) : (s.setAh v).mem = s.mem := rfl

/-! ### `writeByte` -/

@[simp] theorem State.writeByte_aw (seg off : Word) (v : Byte) : (s.writeByte seg off v).aw = s.aw := rfl
@[simp] theorem State.writeByte_bw (seg off : Word) (v : Byte) : (s.writeByte seg off v).bw = s.bw := rfl
@[simp] theorem State.writeByte_cw (seg off : Word) (v : Byte) : (s.writeByte seg off v).cw = s.cw := rfl
@[simp] theorem State.writeByte_dw (seg off : Word) (v : Byte) : (s.writeByte seg off v).dw = s.dw := rfl
@[simp] theorem State.writeByte_sp (seg off : Word) (v : Byte) : (s.writeByte seg off v).sp = s.sp := rfl
@[simp] theorem State.writeByte_bp (seg off : Word) (v : Byte) : (s.writeByte seg off v).bp = s.bp := rfl
@[simp] theorem State.writeByte_ix (seg off : Word) (v : Byte) : (s.writeByte seg off v).ix = s.ix := rfl
@[simp] theorem State.writeByte_iy (seg off : Word) (v : Byte) : (s.writeByte seg off v).iy = s.iy := rfl
@[simp] theorem State.writeByte_ps (seg off : Word) (v : Byte) : (s.writeByte seg off v).ps = s.ps := rfl
@[simp] theorem State.writeByte_ss (seg off : Word) (v : Byte) : (s.writeByte seg off v).ss = s.ss := rfl
@[simp] theorem State.writeByte_ds0 (seg off : Word) (v : Byte) : (s.writeByte seg off v).ds0 = s.ds0 := rfl
@[simp] theorem State.writeByte_ds1 (seg off : Word) (v : Byte) : (s.writeByte seg off v).ds1 = s.ds1 := rfl
@[simp] theorem State.writeByte_pc (seg off : Word) (v : Byte) : (s.writeByte seg off v).pc = s.pc := rfl
@[simp] theorem State.writeByte_psw (seg off : Word) (v : Byte) : (s.writeByte seg off v).psw = s.psw := rfl
@[simp] theorem State.writeByte_mdWe (seg off : Word) (v : Byte) : (s.writeByte seg off v).mdWe = s.mdWe := rfl
@[simp] theorem State.writeByte_nmiPending (seg off : Word) (v : Byte) :
    (s.writeByte seg off v).nmiPending = s.nmiPending := rfl
@[simp] theorem State.writeByte_inhibitAll (seg off : Word) (v : Byte) :
    (s.writeByte seg off v).inhibitAll = s.inhibitAll := rfl
@[simp] theorem State.writeByte_inhibitInt (seg off : Word) (v : Byte) :
    (s.writeByte seg off v).inhibitInt = s.inhibitInt := rfl
@[simp] theorem State.writeByte_halted (seg off : Word) (v : Byte) : (s.writeByte seg off v).halted = s.halted := rfl
@[simp] theorem State.writeByte_haltLock (seg off : Word) (v : Byte) :
    (s.writeByte seg off v).haltLock = s.haltLock := rfl
@[simp] theorem State.writeByte_suspended (seg off : Word) (v : Byte) :
    (s.writeByte seg off v).suspended = s.suspended := rfl
@[simp] theorem State.writeByte_pfx (seg off : Word) (v : Byte) : (s.writeByte seg off v).pfx = s.pfx := rfl
@[simp] theorem State.writeByte_queue (seg off : Word) (v : Byte) : (s.writeByte seg off v).queue = s.queue := rfl
@[simp] theorem State.writeByte_prefetchPlan (seg off : Word) (v : Byte) :
    (s.writeByte seg off v).prefetchPlan = s.prefetchPlan := rfl
@[simp] theorem State.writeByte_queueBefore (seg off : Word) (v : Byte) :
    (s.writeByte seg off v).queueBefore = s.queueBefore := rfl
@[simp] theorem State.writeByte_pins (seg off : Word) (v : Byte) : (s.writeByte seg off v).pins = s.pins := rfl
@[simp] theorem State.writeByte_inputs (seg off : Word) (v : Byte) : (s.writeByte seg off v).inputs = s.inputs := rfl
@[simp] theorem State.writeByte_ioIn (seg off : Word) (v : Byte) : (s.writeByte seg off v).ioIn = s.ioIn := rfl
@[simp] theorem State.writeByte_ioCtr (seg off : Word) (v : Byte) : (s.writeByte seg off v).ioCtr = s.ioCtr := rfl
@[simp] theorem State.writeByte_ioOut (seg off : Word) (v : Byte) : (s.writeByte seg off v).ioOut = s.ioOut := rfl
@[simp] theorem State.writeByte_freeCtr (seg off : Word) (v : Byte) : (s.writeByte seg off v).freeCtr = s.freeCtr := rfl
@[simp] theorem State.writeByte_mem (seg off : Word) (v : Byte) :
    (s.writeByte seg off v).mem = Memory.write s.mem (phys seg off).toNat v := rfl

/-! ### `writeWord` -/

@[simp] theorem State.writeWord_aw (seg off v : Word) : (s.writeWord seg off v).aw = s.aw := rfl
@[simp] theorem State.writeWord_bw (seg off v : Word) : (s.writeWord seg off v).bw = s.bw := rfl
@[simp] theorem State.writeWord_cw (seg off v : Word) : (s.writeWord seg off v).cw = s.cw := rfl
@[simp] theorem State.writeWord_dw (seg off v : Word) : (s.writeWord seg off v).dw = s.dw := rfl
@[simp] theorem State.writeWord_sp (seg off v : Word) : (s.writeWord seg off v).sp = s.sp := rfl
@[simp] theorem State.writeWord_bp (seg off v : Word) : (s.writeWord seg off v).bp = s.bp := rfl
@[simp] theorem State.writeWord_ix (seg off v : Word) : (s.writeWord seg off v).ix = s.ix := rfl
@[simp] theorem State.writeWord_iy (seg off v : Word) : (s.writeWord seg off v).iy = s.iy := rfl
@[simp] theorem State.writeWord_ps (seg off v : Word) : (s.writeWord seg off v).ps = s.ps := rfl
@[simp] theorem State.writeWord_ss (seg off v : Word) : (s.writeWord seg off v).ss = s.ss := rfl
@[simp] theorem State.writeWord_ds0 (seg off v : Word) : (s.writeWord seg off v).ds0 = s.ds0 := rfl
@[simp] theorem State.writeWord_ds1 (seg off v : Word) : (s.writeWord seg off v).ds1 = s.ds1 := rfl
@[simp] theorem State.writeWord_pc (seg off v : Word) : (s.writeWord seg off v).pc = s.pc := rfl
@[simp] theorem State.writeWord_psw (seg off v : Word) : (s.writeWord seg off v).psw = s.psw := rfl
@[simp] theorem State.writeWord_mdWe (seg off v : Word) : (s.writeWord seg off v).mdWe = s.mdWe := rfl
@[simp] theorem State.writeWord_nmiPending (seg off v : Word) : (s.writeWord seg off v).nmiPending = s.nmiPending := rfl
@[simp] theorem State.writeWord_inhibitAll (seg off v : Word) : (s.writeWord seg off v).inhibitAll = s.inhibitAll := rfl
@[simp] theorem State.writeWord_inhibitInt (seg off v : Word) : (s.writeWord seg off v).inhibitInt = s.inhibitInt := rfl
@[simp] theorem State.writeWord_halted (seg off v : Word) : (s.writeWord seg off v).halted = s.halted := rfl
@[simp] theorem State.writeWord_haltLock (seg off v : Word) : (s.writeWord seg off v).haltLock = s.haltLock := rfl
@[simp] theorem State.writeWord_suspended (seg off v : Word) : (s.writeWord seg off v).suspended = s.suspended := rfl
@[simp] theorem State.writeWord_pfx (seg off v : Word) : (s.writeWord seg off v).pfx = s.pfx := rfl
@[simp] theorem State.writeWord_queue (seg off v : Word) : (s.writeWord seg off v).queue = s.queue := rfl
@[simp] theorem State.writeWord_prefetchPlan (seg off v : Word) :
    (s.writeWord seg off v).prefetchPlan = s.prefetchPlan := rfl
@[simp] theorem State.writeWord_queueBefore (seg off v : Word) :
    (s.writeWord seg off v).queueBefore = s.queueBefore := rfl
@[simp] theorem State.writeWord_pins (seg off v : Word) : (s.writeWord seg off v).pins = s.pins := rfl
@[simp] theorem State.writeWord_inputs (seg off v : Word) : (s.writeWord seg off v).inputs = s.inputs := rfl
@[simp] theorem State.writeWord_ioIn (seg off v : Word) : (s.writeWord seg off v).ioIn = s.ioIn := rfl
@[simp] theorem State.writeWord_ioCtr (seg off v : Word) : (s.writeWord seg off v).ioCtr = s.ioCtr := rfl
@[simp] theorem State.writeWord_ioOut (seg off v : Word) : (s.writeWord seg off v).ioOut = s.ioOut := rfl
@[simp] theorem State.writeWord_freeCtr (seg off v : Word) : (s.writeWord seg off v).freeCtr = s.freeCtr := rfl

/-! ### `writeMem` -/

@[simp] theorem State.writeMem_aw (w : Width) (seg off : Word) (v : BitVec w.bits) :
    (s.writeMem w seg off v).aw = s.aw := by cases w <;> rfl
@[simp] theorem State.writeMem_bw (w : Width) (seg off : Word) (v : BitVec w.bits) :
    (s.writeMem w seg off v).bw = s.bw := by cases w <;> rfl
@[simp] theorem State.writeMem_cw (w : Width) (seg off : Word) (v : BitVec w.bits) :
    (s.writeMem w seg off v).cw = s.cw := by cases w <;> rfl
@[simp] theorem State.writeMem_dw (w : Width) (seg off : Word) (v : BitVec w.bits) :
    (s.writeMem w seg off v).dw = s.dw := by cases w <;> rfl
@[simp] theorem State.writeMem_sp (w : Width) (seg off : Word) (v : BitVec w.bits) :
    (s.writeMem w seg off v).sp = s.sp := by cases w <;> rfl
@[simp] theorem State.writeMem_bp (w : Width) (seg off : Word) (v : BitVec w.bits) :
    (s.writeMem w seg off v).bp = s.bp := by cases w <;> rfl
@[simp] theorem State.writeMem_ix (w : Width) (seg off : Word) (v : BitVec w.bits) :
    (s.writeMem w seg off v).ix = s.ix := by cases w <;> rfl
@[simp] theorem State.writeMem_iy (w : Width) (seg off : Word) (v : BitVec w.bits) :
    (s.writeMem w seg off v).iy = s.iy := by cases w <;> rfl
@[simp] theorem State.writeMem_ps (w : Width) (seg off : Word) (v : BitVec w.bits) :
    (s.writeMem w seg off v).ps = s.ps := by cases w <;> rfl
@[simp] theorem State.writeMem_ss (w : Width) (seg off : Word) (v : BitVec w.bits) :
    (s.writeMem w seg off v).ss = s.ss := by cases w <;> rfl
@[simp] theorem State.writeMem_ds0 (w : Width) (seg off : Word) (v : BitVec w.bits) :
    (s.writeMem w seg off v).ds0 = s.ds0 := by cases w <;> rfl
@[simp] theorem State.writeMem_ds1 (w : Width) (seg off : Word) (v : BitVec w.bits) :
    (s.writeMem w seg off v).ds1 = s.ds1 := by cases w <;> rfl
@[simp] theorem State.writeMem_pc (w : Width) (seg off : Word) (v : BitVec w.bits) :
    (s.writeMem w seg off v).pc = s.pc := by cases w <;> rfl
@[simp] theorem State.writeMem_psw (w : Width) (seg off : Word) (v : BitVec w.bits) :
    (s.writeMem w seg off v).psw = s.psw := by cases w <;> rfl
@[simp] theorem State.writeMem_mdWe (w : Width) (seg off : Word) (v : BitVec w.bits) :
    (s.writeMem w seg off v).mdWe = s.mdWe := by cases w <;> rfl
@[simp] theorem State.writeMem_nmiPending (w : Width) (seg off : Word) (v : BitVec w.bits) :
    (s.writeMem w seg off v).nmiPending = s.nmiPending := by cases w <;> rfl
@[simp] theorem State.writeMem_inhibitAll (w : Width) (seg off : Word) (v : BitVec w.bits) :
    (s.writeMem w seg off v).inhibitAll = s.inhibitAll := by cases w <;> rfl
@[simp] theorem State.writeMem_inhibitInt (w : Width) (seg off : Word) (v : BitVec w.bits) :
    (s.writeMem w seg off v).inhibitInt = s.inhibitInt := by cases w <;> rfl
@[simp] theorem State.writeMem_halted (w : Width) (seg off : Word) (v : BitVec w.bits) :
    (s.writeMem w seg off v).halted = s.halted := by cases w <;> rfl
@[simp] theorem State.writeMem_haltLock (w : Width) (seg off : Word) (v : BitVec w.bits) :
    (s.writeMem w seg off v).haltLock = s.haltLock := by cases w <;> rfl
@[simp] theorem State.writeMem_suspended (w : Width) (seg off : Word) (v : BitVec w.bits) :
    (s.writeMem w seg off v).suspended = s.suspended := by cases w <;> rfl
@[simp] theorem State.writeMem_pfx (w : Width) (seg off : Word) (v : BitVec w.bits) :
    (s.writeMem w seg off v).pfx = s.pfx := by cases w <;> rfl
@[simp] theorem State.writeMem_queue (w : Width) (seg off : Word) (v : BitVec w.bits) :
    (s.writeMem w seg off v).queue = s.queue := by cases w <;> rfl
@[simp] theorem State.writeMem_prefetchPlan (w : Width) (seg off : Word) (v : BitVec w.bits) :
    (s.writeMem w seg off v).prefetchPlan = s.prefetchPlan := by cases w <;> rfl
@[simp] theorem State.writeMem_queueBefore (w : Width) (seg off : Word) (v : BitVec w.bits) :
    (s.writeMem w seg off v).queueBefore = s.queueBefore := by cases w <;> rfl
@[simp] theorem State.writeMem_pins (w : Width) (seg off : Word) (v : BitVec w.bits) :
    (s.writeMem w seg off v).pins = s.pins := by cases w <;> rfl
@[simp] theorem State.writeMem_inputs (w : Width) (seg off : Word) (v : BitVec w.bits) :
    (s.writeMem w seg off v).inputs = s.inputs := by cases w <;> rfl
@[simp] theorem State.writeMem_ioIn (w : Width) (seg off : Word) (v : BitVec w.bits) :
    (s.writeMem w seg off v).ioIn = s.ioIn := by cases w <;> rfl
@[simp] theorem State.writeMem_ioCtr (w : Width) (seg off : Word) (v : BitVec w.bits) :
    (s.writeMem w seg off v).ioCtr = s.ioCtr := by cases w <;> rfl
@[simp] theorem State.writeMem_ioOut (w : Width) (seg off : Word) (v : BitVec w.bits) :
    (s.writeMem w seg off v).ioOut = s.ioOut := by cases w <;> rfl
@[simp] theorem State.writeMem_freeCtr (w : Width) (seg off : Word) (v : BitVec w.bits) :
    (s.writeMem w seg off v).freeCtr = s.freeCtr := by cases w <;> rfl

/-! ### `writeOperand` -/

@[simp] theorem State.writeOperand_aw (w : Width) (m : Mem) (v : BitVec w.bits) :
    (s.writeOperand w m v).aw = s.aw := by cases w <;> rfl
@[simp] theorem State.writeOperand_bw (w : Width) (m : Mem) (v : BitVec w.bits) :
    (s.writeOperand w m v).bw = s.bw := by cases w <;> rfl
@[simp] theorem State.writeOperand_cw (w : Width) (m : Mem) (v : BitVec w.bits) :
    (s.writeOperand w m v).cw = s.cw := by cases w <;> rfl
@[simp] theorem State.writeOperand_dw (w : Width) (m : Mem) (v : BitVec w.bits) :
    (s.writeOperand w m v).dw = s.dw := by cases w <;> rfl
@[simp] theorem State.writeOperand_sp (w : Width) (m : Mem) (v : BitVec w.bits) :
    (s.writeOperand w m v).sp = s.sp := by cases w <;> rfl
@[simp] theorem State.writeOperand_bp (w : Width) (m : Mem) (v : BitVec w.bits) :
    (s.writeOperand w m v).bp = s.bp := by cases w <;> rfl
@[simp] theorem State.writeOperand_ix (w : Width) (m : Mem) (v : BitVec w.bits) :
    (s.writeOperand w m v).ix = s.ix := by cases w <;> rfl
@[simp] theorem State.writeOperand_iy (w : Width) (m : Mem) (v : BitVec w.bits) :
    (s.writeOperand w m v).iy = s.iy := by cases w <;> rfl
@[simp] theorem State.writeOperand_ps (w : Width) (m : Mem) (v : BitVec w.bits) :
    (s.writeOperand w m v).ps = s.ps := by cases w <;> rfl
@[simp] theorem State.writeOperand_ss (w : Width) (m : Mem) (v : BitVec w.bits) :
    (s.writeOperand w m v).ss = s.ss := by cases w <;> rfl
@[simp] theorem State.writeOperand_ds0 (w : Width) (m : Mem) (v : BitVec w.bits) :
    (s.writeOperand w m v).ds0 = s.ds0 := by cases w <;> rfl
@[simp] theorem State.writeOperand_ds1 (w : Width) (m : Mem) (v : BitVec w.bits) :
    (s.writeOperand w m v).ds1 = s.ds1 := by cases w <;> rfl
@[simp] theorem State.writeOperand_pc (w : Width) (m : Mem) (v : BitVec w.bits) :
    (s.writeOperand w m v).pc = s.pc := by cases w <;> rfl
@[simp] theorem State.writeOperand_psw (w : Width) (m : Mem) (v : BitVec w.bits) :
    (s.writeOperand w m v).psw = s.psw := by cases w <;> rfl
@[simp] theorem State.writeOperand_mdWe (w : Width) (m : Mem) (v : BitVec w.bits) :
    (s.writeOperand w m v).mdWe = s.mdWe := by cases w <;> rfl
@[simp] theorem State.writeOperand_nmiPending (w : Width) (m : Mem) (v : BitVec w.bits) :
    (s.writeOperand w m v).nmiPending = s.nmiPending := by cases w <;> rfl
@[simp] theorem State.writeOperand_inhibitAll (w : Width) (m : Mem) (v : BitVec w.bits) :
    (s.writeOperand w m v).inhibitAll = s.inhibitAll := by cases w <;> rfl
@[simp] theorem State.writeOperand_inhibitInt (w : Width) (m : Mem) (v : BitVec w.bits) :
    (s.writeOperand w m v).inhibitInt = s.inhibitInt := by cases w <;> rfl
@[simp] theorem State.writeOperand_halted (w : Width) (m : Mem) (v : BitVec w.bits) :
    (s.writeOperand w m v).halted = s.halted := by cases w <;> rfl
@[simp] theorem State.writeOperand_haltLock (w : Width) (m : Mem) (v : BitVec w.bits) :
    (s.writeOperand w m v).haltLock = s.haltLock := by cases w <;> rfl
@[simp] theorem State.writeOperand_suspended (w : Width) (m : Mem) (v : BitVec w.bits) :
    (s.writeOperand w m v).suspended = s.suspended := by cases w <;> rfl
@[simp] theorem State.writeOperand_pfx (w : Width) (m : Mem) (v : BitVec w.bits) :
    (s.writeOperand w m v).pfx = s.pfx := by cases w <;> rfl
@[simp] theorem State.writeOperand_queue (w : Width) (m : Mem) (v : BitVec w.bits) :
    (s.writeOperand w m v).queue = s.queue := by cases w <;> rfl
@[simp] theorem State.writeOperand_prefetchPlan (w : Width) (m : Mem) (v : BitVec w.bits) :
    (s.writeOperand w m v).prefetchPlan = s.prefetchPlan := by cases w <;> rfl
@[simp] theorem State.writeOperand_queueBefore (w : Width) (m : Mem) (v : BitVec w.bits) :
    (s.writeOperand w m v).queueBefore = s.queueBefore := by cases w <;> rfl
@[simp] theorem State.writeOperand_pins (w : Width) (m : Mem) (v : BitVec w.bits) :
    (s.writeOperand w m v).pins = s.pins := by cases w <;> rfl
@[simp] theorem State.writeOperand_inputs (w : Width) (m : Mem) (v : BitVec w.bits) :
    (s.writeOperand w m v).inputs = s.inputs := by cases w <;> rfl
@[simp] theorem State.writeOperand_ioIn (w : Width) (m : Mem) (v : BitVec w.bits) :
    (s.writeOperand w m v).ioIn = s.ioIn := by cases w <;> rfl
@[simp] theorem State.writeOperand_ioCtr (w : Width) (m : Mem) (v : BitVec w.bits) :
    (s.writeOperand w m v).ioCtr = s.ioCtr := by cases w <;> rfl
@[simp] theorem State.writeOperand_ioOut (w : Width) (m : Mem) (v : BitVec w.bits) :
    (s.writeOperand w m v).ioOut = s.ioOut := by cases w <;> rfl
@[simp] theorem State.writeOperand_freeCtr (w : Width) (m : Mem) (v : BitVec w.bits) :
    (s.writeOperand w m v).freeCtr = s.freeCtr := by cases w <;> rfl
@[simp] theorem State.writeOperand_mem (w : Width) (m : Mem) (v : BitVec w.bits) :
    (s.writeOperand w m v).mem = (s.writeMem w (s.segOf m) (s.ea m) v).mem := by cases w <;> rfl

/-! ### `flags` -/

@[simp] theorem State.flags_aw (e : FlagEffect) : (s.flags e).aw = s.aw := rfl
@[simp] theorem State.flags_bw (e : FlagEffect) : (s.flags e).bw = s.bw := rfl
@[simp] theorem State.flags_cw (e : FlagEffect) : (s.flags e).cw = s.cw := rfl
@[simp] theorem State.flags_dw (e : FlagEffect) : (s.flags e).dw = s.dw := rfl
@[simp] theorem State.flags_sp (e : FlagEffect) : (s.flags e).sp = s.sp := rfl
@[simp] theorem State.flags_bp (e : FlagEffect) : (s.flags e).bp = s.bp := rfl
@[simp] theorem State.flags_ix (e : FlagEffect) : (s.flags e).ix = s.ix := rfl
@[simp] theorem State.flags_iy (e : FlagEffect) : (s.flags e).iy = s.iy := rfl
@[simp] theorem State.flags_ps (e : FlagEffect) : (s.flags e).ps = s.ps := rfl
@[simp] theorem State.flags_ss (e : FlagEffect) : (s.flags e).ss = s.ss := rfl
@[simp] theorem State.flags_ds0 (e : FlagEffect) : (s.flags e).ds0 = s.ds0 := rfl
@[simp] theorem State.flags_ds1 (e : FlagEffect) : (s.flags e).ds1 = s.ds1 := rfl
@[simp] theorem State.flags_pc (e : FlagEffect) : (s.flags e).pc = s.pc := rfl
@[simp] theorem State.flags_psw (e : FlagEffect) : (s.flags e).psw = e.apply s.psw s.free := rfl
@[simp] theorem State.flags_mdWe (e : FlagEffect) : (s.flags e).mdWe = s.mdWe := rfl
@[simp] theorem State.flags_nmiPending (e : FlagEffect) : (s.flags e).nmiPending = s.nmiPending := rfl
@[simp] theorem State.flags_inhibitAll (e : FlagEffect) : (s.flags e).inhibitAll = s.inhibitAll := rfl
@[simp] theorem State.flags_inhibitInt (e : FlagEffect) : (s.flags e).inhibitInt = s.inhibitInt := rfl
@[simp] theorem State.flags_halted (e : FlagEffect) : (s.flags e).halted = s.halted := rfl
@[simp] theorem State.flags_haltLock (e : FlagEffect) : (s.flags e).haltLock = s.haltLock := rfl
@[simp] theorem State.flags_suspended (e : FlagEffect) : (s.flags e).suspended = s.suspended := rfl
@[simp] theorem State.flags_pfx (e : FlagEffect) : (s.flags e).pfx = s.pfx := rfl
@[simp] theorem State.flags_queue (e : FlagEffect) : (s.flags e).queue = s.queue := rfl
@[simp] theorem State.flags_prefetchPlan (e : FlagEffect) : (s.flags e).prefetchPlan = s.prefetchPlan := rfl
@[simp] theorem State.flags_queueBefore (e : FlagEffect) : (s.flags e).queueBefore = s.queueBefore := rfl
@[simp] theorem State.flags_pins (e : FlagEffect) : (s.flags e).pins = s.pins := rfl
@[simp] theorem State.flags_inputs (e : FlagEffect) : (s.flags e).inputs = s.inputs := rfl
@[simp] theorem State.flags_ioIn (e : FlagEffect) : (s.flags e).ioIn = s.ioIn := rfl
@[simp] theorem State.flags_ioCtr (e : FlagEffect) : (s.flags e).ioCtr = s.ioCtr := rfl
@[simp] theorem State.flags_ioOut (e : FlagEffect) : (s.flags e).ioOut = s.ioOut := rfl
@[simp] theorem State.flags_freeCtr (e : FlagEffect) :
    (s.flags e).freeCtr = if e.draws then s.freeCtr + 1 else s.freeCtr := rfl
@[simp] theorem State.flags_mem (e : FlagEffect) : (s.flags e).mem = s.mem := rfl

/-! ### `drawn` -/

@[simp] theorem State.drawn_aw : (s.drawn).aw = s.aw := rfl
@[simp] theorem State.drawn_bw : (s.drawn).bw = s.bw := rfl
@[simp] theorem State.drawn_cw : (s.drawn).cw = s.cw := rfl
@[simp] theorem State.drawn_dw : (s.drawn).dw = s.dw := rfl
@[simp] theorem State.drawn_sp : (s.drawn).sp = s.sp := rfl
@[simp] theorem State.drawn_bp : (s.drawn).bp = s.bp := rfl
@[simp] theorem State.drawn_ix : (s.drawn).ix = s.ix := rfl
@[simp] theorem State.drawn_iy : (s.drawn).iy = s.iy := rfl
@[simp] theorem State.drawn_ps : (s.drawn).ps = s.ps := rfl
@[simp] theorem State.drawn_ss : (s.drawn).ss = s.ss := rfl
@[simp] theorem State.drawn_ds0 : (s.drawn).ds0 = s.ds0 := rfl
@[simp] theorem State.drawn_ds1 : (s.drawn).ds1 = s.ds1 := rfl
@[simp] theorem State.drawn_pc : (s.drawn).pc = s.pc := rfl
@[simp] theorem State.drawn_psw : (s.drawn).psw = s.psw := rfl
@[simp] theorem State.drawn_mdWe : (s.drawn).mdWe = s.mdWe := rfl
@[simp] theorem State.drawn_nmiPending : (s.drawn).nmiPending = s.nmiPending := rfl
@[simp] theorem State.drawn_inhibitAll : (s.drawn).inhibitAll = s.inhibitAll := rfl
@[simp] theorem State.drawn_inhibitInt : (s.drawn).inhibitInt = s.inhibitInt := rfl
@[simp] theorem State.drawn_halted : (s.drawn).halted = s.halted := rfl
@[simp] theorem State.drawn_haltLock : (s.drawn).haltLock = s.haltLock := rfl
@[simp] theorem State.drawn_suspended : (s.drawn).suspended = s.suspended := rfl
@[simp] theorem State.drawn_pfx : (s.drawn).pfx = s.pfx := rfl
@[simp] theorem State.drawn_queue : (s.drawn).queue = s.queue := rfl
@[simp] theorem State.drawn_prefetchPlan : (s.drawn).prefetchPlan = s.prefetchPlan := rfl
@[simp] theorem State.drawn_queueBefore : (s.drawn).queueBefore = s.queueBefore := rfl
@[simp] theorem State.drawn_pins : (s.drawn).pins = s.pins := rfl
@[simp] theorem State.drawn_inputs : (s.drawn).inputs = s.inputs := rfl
@[simp] theorem State.drawn_ioIn : (s.drawn).ioIn = s.ioIn := rfl
@[simp] theorem State.drawn_ioCtr : (s.drawn).ioCtr = s.ioCtr := rfl
@[simp] theorem State.drawn_ioOut : (s.drawn).ioOut = s.ioOut := rfl
@[simp] theorem State.drawn_freeCtr : (s.drawn).freeCtr = s.freeCtr + 1 := rfl
@[simp] theorem State.drawn_mem : (s.drawn).mem = s.mem := rfl

/-! ### `jump` -/

@[simp] theorem State.jump_aw (t : Word) : (s.jump t).aw = s.aw := rfl
@[simp] theorem State.jump_bw (t : Word) : (s.jump t).bw = s.bw := rfl
@[simp] theorem State.jump_cw (t : Word) : (s.jump t).cw = s.cw := rfl
@[simp] theorem State.jump_dw (t : Word) : (s.jump t).dw = s.dw := rfl
@[simp] theorem State.jump_sp (t : Word) : (s.jump t).sp = s.sp := rfl
@[simp] theorem State.jump_bp (t : Word) : (s.jump t).bp = s.bp := rfl
@[simp] theorem State.jump_ix (t : Word) : (s.jump t).ix = s.ix := rfl
@[simp] theorem State.jump_iy (t : Word) : (s.jump t).iy = s.iy := rfl
@[simp] theorem State.jump_ps (t : Word) : (s.jump t).ps = s.ps := rfl
@[simp] theorem State.jump_ss (t : Word) : (s.jump t).ss = s.ss := rfl
@[simp] theorem State.jump_ds0 (t : Word) : (s.jump t).ds0 = s.ds0 := rfl
@[simp] theorem State.jump_ds1 (t : Word) : (s.jump t).ds1 = s.ds1 := rfl
@[simp] theorem State.jump_pc (t : Word) : (s.jump t).pc = t := rfl
@[simp] theorem State.jump_psw (t : Word) : (s.jump t).psw = s.psw := rfl
@[simp] theorem State.jump_mdWe (t : Word) : (s.jump t).mdWe = s.mdWe := rfl
@[simp] theorem State.jump_nmiPending (t : Word) : (s.jump t).nmiPending = s.nmiPending := rfl
@[simp] theorem State.jump_inhibitAll (t : Word) : (s.jump t).inhibitAll = s.inhibitAll := rfl
@[simp] theorem State.jump_inhibitInt (t : Word) : (s.jump t).inhibitInt = s.inhibitInt := rfl
@[simp] theorem State.jump_halted (t : Word) : (s.jump t).halted = s.halted := rfl
@[simp] theorem State.jump_haltLock (t : Word) : (s.jump t).haltLock = s.haltLock := rfl
@[simp] theorem State.jump_suspended (t : Word) : (s.jump t).suspended = s.suspended := rfl
@[simp] theorem State.jump_pfx (t : Word) : (s.jump t).pfx = s.pfx := rfl
@[simp] theorem State.jump_queue (t : Word) : (s.jump t).queue = [] := rfl
@[simp] theorem State.jump_prefetchPlan (t : Word) : (s.jump t).prefetchPlan = s.prefetchPlan := rfl
@[simp] theorem State.jump_queueBefore (t : Word) : (s.jump t).queueBefore = s.queueBefore := rfl
@[simp] theorem State.jump_pins (t : Word) : (s.jump t).pins = s.pins := rfl
@[simp] theorem State.jump_inputs (t : Word) : (s.jump t).inputs = s.inputs := rfl
@[simp] theorem State.jump_ioIn (t : Word) : (s.jump t).ioIn = s.ioIn := rfl
@[simp] theorem State.jump_ioCtr (t : Word) : (s.jump t).ioCtr = s.ioCtr := rfl
@[simp] theorem State.jump_ioOut (t : Word) : (s.jump t).ioOut = s.ioOut := rfl
@[simp] theorem State.jump_freeCtr (t : Word) : (s.jump t).freeCtr = s.freeCtr := rfl
@[simp] theorem State.jump_mem (t : Word) : (s.jump t).mem = s.mem := rfl

/-! ### `jumpFar` -/

@[simp] theorem State.jumpFar_aw (seg off : Word) : (s.jumpFar seg off).aw = s.aw := rfl
@[simp] theorem State.jumpFar_bw (seg off : Word) : (s.jumpFar seg off).bw = s.bw := rfl
@[simp] theorem State.jumpFar_cw (seg off : Word) : (s.jumpFar seg off).cw = s.cw := rfl
@[simp] theorem State.jumpFar_dw (seg off : Word) : (s.jumpFar seg off).dw = s.dw := rfl
@[simp] theorem State.jumpFar_sp (seg off : Word) : (s.jumpFar seg off).sp = s.sp := rfl
@[simp] theorem State.jumpFar_bp (seg off : Word) : (s.jumpFar seg off).bp = s.bp := rfl
@[simp] theorem State.jumpFar_ix (seg off : Word) : (s.jumpFar seg off).ix = s.ix := rfl
@[simp] theorem State.jumpFar_iy (seg off : Word) : (s.jumpFar seg off).iy = s.iy := rfl
@[simp] theorem State.jumpFar_ps (seg off : Word) : (s.jumpFar seg off).ps = seg := rfl
@[simp] theorem State.jumpFar_ss (seg off : Word) : (s.jumpFar seg off).ss = s.ss := rfl
@[simp] theorem State.jumpFar_ds0 (seg off : Word) : (s.jumpFar seg off).ds0 = s.ds0 := rfl
@[simp] theorem State.jumpFar_ds1 (seg off : Word) : (s.jumpFar seg off).ds1 = s.ds1 := rfl
@[simp] theorem State.jumpFar_pc (seg off : Word) : (s.jumpFar seg off).pc = off := rfl
@[simp] theorem State.jumpFar_psw (seg off : Word) : (s.jumpFar seg off).psw = s.psw := rfl
@[simp] theorem State.jumpFar_mdWe (seg off : Word) : (s.jumpFar seg off).mdWe = s.mdWe := rfl
@[simp] theorem State.jumpFar_nmiPending (seg off : Word) : (s.jumpFar seg off).nmiPending = s.nmiPending := rfl
@[simp] theorem State.jumpFar_inhibitAll (seg off : Word) : (s.jumpFar seg off).inhibitAll = s.inhibitAll := rfl
@[simp] theorem State.jumpFar_inhibitInt (seg off : Word) : (s.jumpFar seg off).inhibitInt = s.inhibitInt := rfl
@[simp] theorem State.jumpFar_halted (seg off : Word) : (s.jumpFar seg off).halted = s.halted := rfl
@[simp] theorem State.jumpFar_haltLock (seg off : Word) : (s.jumpFar seg off).haltLock = s.haltLock := rfl
@[simp] theorem State.jumpFar_suspended (seg off : Word) : (s.jumpFar seg off).suspended = s.suspended := rfl
@[simp] theorem State.jumpFar_pfx (seg off : Word) : (s.jumpFar seg off).pfx = s.pfx := rfl
@[simp] theorem State.jumpFar_queue (seg off : Word) : (s.jumpFar seg off).queue = [] := rfl
@[simp] theorem State.jumpFar_prefetchPlan (seg off : Word) : (s.jumpFar seg off).prefetchPlan = s.prefetchPlan := rfl
@[simp] theorem State.jumpFar_queueBefore (seg off : Word) : (s.jumpFar seg off).queueBefore = s.queueBefore := rfl
@[simp] theorem State.jumpFar_pins (seg off : Word) : (s.jumpFar seg off).pins = s.pins := rfl
@[simp] theorem State.jumpFar_inputs (seg off : Word) : (s.jumpFar seg off).inputs = s.inputs := rfl
@[simp] theorem State.jumpFar_ioIn (seg off : Word) : (s.jumpFar seg off).ioIn = s.ioIn := rfl
@[simp] theorem State.jumpFar_ioCtr (seg off : Word) : (s.jumpFar seg off).ioCtr = s.ioCtr := rfl
@[simp] theorem State.jumpFar_ioOut (seg off : Word) : (s.jumpFar seg off).ioOut = s.ioOut := rfl
@[simp] theorem State.jumpFar_freeCtr (seg off : Word) : (s.jumpFar seg off).freeCtr = s.freeCtr := rfl
@[simp] theorem State.jumpFar_mem (seg off : Word) : (s.jumpFar seg off).mem = s.mem := rfl

/-! ### `push` -/

@[simp] theorem State.push_aw (v : Word) : (s.push v).aw = s.aw := rfl
@[simp] theorem State.push_bw (v : Word) : (s.push v).bw = s.bw := rfl
@[simp] theorem State.push_cw (v : Word) : (s.push v).cw = s.cw := rfl
@[simp] theorem State.push_dw (v : Word) : (s.push v).dw = s.dw := rfl
@[simp] theorem State.push_sp (v : Word) : (s.push v).sp = s.sp - 2 := rfl
@[simp] theorem State.push_bp (v : Word) : (s.push v).bp = s.bp := rfl
@[simp] theorem State.push_ix (v : Word) : (s.push v).ix = s.ix := rfl
@[simp] theorem State.push_iy (v : Word) : (s.push v).iy = s.iy := rfl
@[simp] theorem State.push_ps (v : Word) : (s.push v).ps = s.ps := rfl
@[simp] theorem State.push_ss (v : Word) : (s.push v).ss = s.ss := rfl
@[simp] theorem State.push_ds0 (v : Word) : (s.push v).ds0 = s.ds0 := rfl
@[simp] theorem State.push_ds1 (v : Word) : (s.push v).ds1 = s.ds1 := rfl
@[simp] theorem State.push_pc (v : Word) : (s.push v).pc = s.pc := rfl
@[simp] theorem State.push_psw (v : Word) : (s.push v).psw = s.psw := rfl
@[simp] theorem State.push_mdWe (v : Word) : (s.push v).mdWe = s.mdWe := rfl
@[simp] theorem State.push_nmiPending (v : Word) : (s.push v).nmiPending = s.nmiPending := rfl
@[simp] theorem State.push_inhibitAll (v : Word) : (s.push v).inhibitAll = s.inhibitAll := rfl
@[simp] theorem State.push_inhibitInt (v : Word) : (s.push v).inhibitInt = s.inhibitInt := rfl
@[simp] theorem State.push_halted (v : Word) : (s.push v).halted = s.halted := rfl
@[simp] theorem State.push_haltLock (v : Word) : (s.push v).haltLock = s.haltLock := rfl
@[simp] theorem State.push_suspended (v : Word) : (s.push v).suspended = s.suspended := rfl
@[simp] theorem State.push_pfx (v : Word) : (s.push v).pfx = s.pfx := rfl
@[simp] theorem State.push_queue (v : Word) : (s.push v).queue = s.queue := rfl
@[simp] theorem State.push_prefetchPlan (v : Word) : (s.push v).prefetchPlan = s.prefetchPlan := rfl
@[simp] theorem State.push_queueBefore (v : Word) : (s.push v).queueBefore = s.queueBefore := rfl
@[simp] theorem State.push_pins (v : Word) : (s.push v).pins = s.pins := rfl
@[simp] theorem State.push_inputs (v : Word) : (s.push v).inputs = s.inputs := rfl
@[simp] theorem State.push_ioIn (v : Word) : (s.push v).ioIn = s.ioIn := rfl
@[simp] theorem State.push_ioCtr (v : Word) : (s.push v).ioCtr = s.ioCtr := rfl
@[simp] theorem State.push_ioOut (v : Word) : (s.push v).ioOut = s.ioOut := rfl
@[simp] theorem State.push_freeCtr (v : Word) : (s.push v).freeCtr = s.freeCtr := rfl
@[simp] theorem State.push_mem (v : Word) : (s.push v).mem = (s.writeWord s.ss (s.sp - 2) v).mem := rfl

/-! ### `popped` -/

@[simp] theorem State.popped_aw : (s.popped).aw = s.aw := rfl
@[simp] theorem State.popped_bw : (s.popped).bw = s.bw := rfl
@[simp] theorem State.popped_cw : (s.popped).cw = s.cw := rfl
@[simp] theorem State.popped_dw : (s.popped).dw = s.dw := rfl
@[simp] theorem State.popped_sp : (s.popped).sp = s.sp + 2 := rfl
@[simp] theorem State.popped_bp : (s.popped).bp = s.bp := rfl
@[simp] theorem State.popped_ix : (s.popped).ix = s.ix := rfl
@[simp] theorem State.popped_iy : (s.popped).iy = s.iy := rfl
@[simp] theorem State.popped_ps : (s.popped).ps = s.ps := rfl
@[simp] theorem State.popped_ss : (s.popped).ss = s.ss := rfl
@[simp] theorem State.popped_ds0 : (s.popped).ds0 = s.ds0 := rfl
@[simp] theorem State.popped_ds1 : (s.popped).ds1 = s.ds1 := rfl
@[simp] theorem State.popped_pc : (s.popped).pc = s.pc := rfl
@[simp] theorem State.popped_psw : (s.popped).psw = s.psw := rfl
@[simp] theorem State.popped_mdWe : (s.popped).mdWe = s.mdWe := rfl
@[simp] theorem State.popped_nmiPending : (s.popped).nmiPending = s.nmiPending := rfl
@[simp] theorem State.popped_inhibitAll : (s.popped).inhibitAll = s.inhibitAll := rfl
@[simp] theorem State.popped_inhibitInt : (s.popped).inhibitInt = s.inhibitInt := rfl
@[simp] theorem State.popped_halted : (s.popped).halted = s.halted := rfl
@[simp] theorem State.popped_haltLock : (s.popped).haltLock = s.haltLock := rfl
@[simp] theorem State.popped_suspended : (s.popped).suspended = s.suspended := rfl
@[simp] theorem State.popped_pfx : (s.popped).pfx = s.pfx := rfl
@[simp] theorem State.popped_queue : (s.popped).queue = s.queue := rfl
@[simp] theorem State.popped_prefetchPlan : (s.popped).prefetchPlan = s.prefetchPlan := rfl
@[simp] theorem State.popped_queueBefore : (s.popped).queueBefore = s.queueBefore := rfl
@[simp] theorem State.popped_pins : (s.popped).pins = s.pins := rfl
@[simp] theorem State.popped_inputs : (s.popped).inputs = s.inputs := rfl
@[simp] theorem State.popped_ioIn : (s.popped).ioIn = s.ioIn := rfl
@[simp] theorem State.popped_ioCtr : (s.popped).ioCtr = s.ioCtr := rfl
@[simp] theorem State.popped_ioOut : (s.popped).ioOut = s.ioOut := rfl
@[simp] theorem State.popped_freeCtr : (s.popped).freeCtr = s.freeCtr := rfl
@[simp] theorem State.popped_mem : (s.popped).mem = s.mem := rfl

/-! ### `loadPsw` -/

@[simp] theorem State.loadPsw_aw (w : Word) : (s.loadPsw w).aw = s.aw := rfl
@[simp] theorem State.loadPsw_bw (w : Word) : (s.loadPsw w).bw = s.bw := rfl
@[simp] theorem State.loadPsw_cw (w : Word) : (s.loadPsw w).cw = s.cw := rfl
@[simp] theorem State.loadPsw_dw (w : Word) : (s.loadPsw w).dw = s.dw := rfl
@[simp] theorem State.loadPsw_sp (w : Word) : (s.loadPsw w).sp = s.sp := rfl
@[simp] theorem State.loadPsw_bp (w : Word) : (s.loadPsw w).bp = s.bp := rfl
@[simp] theorem State.loadPsw_ix (w : Word) : (s.loadPsw w).ix = s.ix := rfl
@[simp] theorem State.loadPsw_iy (w : Word) : (s.loadPsw w).iy = s.iy := rfl
@[simp] theorem State.loadPsw_ps (w : Word) : (s.loadPsw w).ps = s.ps := rfl
@[simp] theorem State.loadPsw_ss (w : Word) : (s.loadPsw w).ss = s.ss := rfl
@[simp] theorem State.loadPsw_ds0 (w : Word) : (s.loadPsw w).ds0 = s.ds0 := rfl
@[simp] theorem State.loadPsw_ds1 (w : Word) : (s.loadPsw w).ds1 = s.ds1 := rfl
@[simp] theorem State.loadPsw_pc (w : Word) : (s.loadPsw w).pc = s.pc := rfl
@[simp] theorem State.loadPsw_mdWe (w : Word) : (s.loadPsw w).mdWe = s.mdWe := rfl
@[simp] theorem State.loadPsw_nmiPending (w : Word) : (s.loadPsw w).nmiPending = s.nmiPending := rfl
@[simp] theorem State.loadPsw_inhibitAll (w : Word) : (s.loadPsw w).inhibitAll = s.inhibitAll := rfl
@[simp] theorem State.loadPsw_inhibitInt (w : Word) : (s.loadPsw w).inhibitInt = s.inhibitInt := rfl
@[simp] theorem State.loadPsw_halted (w : Word) : (s.loadPsw w).halted = s.halted := rfl
@[simp] theorem State.loadPsw_haltLock (w : Word) : (s.loadPsw w).haltLock = s.haltLock := rfl
@[simp] theorem State.loadPsw_suspended (w : Word) : (s.loadPsw w).suspended = s.suspended := rfl
@[simp] theorem State.loadPsw_pfx (w : Word) : (s.loadPsw w).pfx = s.pfx := rfl
@[simp] theorem State.loadPsw_queue (w : Word) : (s.loadPsw w).queue = s.queue := rfl
@[simp] theorem State.loadPsw_prefetchPlan (w : Word) : (s.loadPsw w).prefetchPlan = s.prefetchPlan := rfl
@[simp] theorem State.loadPsw_queueBefore (w : Word) : (s.loadPsw w).queueBefore = s.queueBefore := rfl
@[simp] theorem State.loadPsw_pins (w : Word) : (s.loadPsw w).pins = s.pins := rfl
@[simp] theorem State.loadPsw_inputs (w : Word) : (s.loadPsw w).inputs = s.inputs := rfl
@[simp] theorem State.loadPsw_ioIn (w : Word) : (s.loadPsw w).ioIn = s.ioIn := rfl
@[simp] theorem State.loadPsw_ioCtr (w : Word) : (s.loadPsw w).ioCtr = s.ioCtr := rfl
@[simp] theorem State.loadPsw_ioOut (w : Word) : (s.loadPsw w).ioOut = s.ioOut := rfl
@[simp] theorem State.loadPsw_freeCtr (w : Word) : (s.loadPsw w).freeCtr = s.freeCtr := rfl
@[simp] theorem State.loadPsw_mem (w : Word) : (s.loadPsw w).mem = s.mem := rfl

/-! ### `pushFrame` -/

@[simp] theorem State.pushFrame_aw : (s.pushFrame).aw = s.aw := by simp only [State.pushFrame, State.push_aw]
@[simp] theorem State.pushFrame_bw : (s.pushFrame).bw = s.bw := by simp only [State.pushFrame, State.push_bw]
@[simp] theorem State.pushFrame_cw : (s.pushFrame).cw = s.cw := by simp only [State.pushFrame, State.push_cw]
@[simp] theorem State.pushFrame_dw : (s.pushFrame).dw = s.dw := by simp only [State.pushFrame, State.push_dw]
@[simp] theorem State.pushFrame_sp :
    (s.pushFrame).sp = s.sp - 2 - 2 - 2 := by simp only [State.pushFrame, State.push_sp]
@[simp] theorem State.pushFrame_bp : (s.pushFrame).bp = s.bp := by simp only [State.pushFrame, State.push_bp]
@[simp] theorem State.pushFrame_ix : (s.pushFrame).ix = s.ix := by simp only [State.pushFrame, State.push_ix]
@[simp] theorem State.pushFrame_iy : (s.pushFrame).iy = s.iy := by simp only [State.pushFrame, State.push_iy]
@[simp] theorem State.pushFrame_ps : (s.pushFrame).ps = s.ps := by simp only [State.pushFrame, State.push_ps]
@[simp] theorem State.pushFrame_ss : (s.pushFrame).ss = s.ss := by simp only [State.pushFrame, State.push_ss]
@[simp] theorem State.pushFrame_ds0 : (s.pushFrame).ds0 = s.ds0 := by simp only [State.pushFrame, State.push_ds0]
@[simp] theorem State.pushFrame_ds1 : (s.pushFrame).ds1 = s.ds1 := by simp only [State.pushFrame, State.push_ds1]
@[simp] theorem State.pushFrame_pc : (s.pushFrame).pc = s.pc := by simp only [State.pushFrame, State.push_pc]
@[simp] theorem State.pushFrame_psw : (s.pushFrame).psw = s.psw := by simp only [State.pushFrame, State.push_psw]
@[simp] theorem State.pushFrame_mdWe : (s.pushFrame).mdWe = s.mdWe := by simp only [State.pushFrame, State.push_mdWe]
@[simp] theorem State.pushFrame_nmiPending :
    (s.pushFrame).nmiPending = s.nmiPending := by simp only [State.pushFrame, State.push_nmiPending]
@[simp] theorem State.pushFrame_inhibitAll :
    (s.pushFrame).inhibitAll = s.inhibitAll := by simp only [State.pushFrame, State.push_inhibitAll]
@[simp] theorem State.pushFrame_inhibitInt :
    (s.pushFrame).inhibitInt = s.inhibitInt := by simp only [State.pushFrame, State.push_inhibitInt]
@[simp] theorem State.pushFrame_halted :
    (s.pushFrame).halted = s.halted := by simp only [State.pushFrame, State.push_halted]
@[simp] theorem State.pushFrame_haltLock :
    (s.pushFrame).haltLock = s.haltLock := by simp only [State.pushFrame, State.push_haltLock]
@[simp] theorem State.pushFrame_suspended :
    (s.pushFrame).suspended = s.suspended := by simp only [State.pushFrame, State.push_suspended]
@[simp] theorem State.pushFrame_pfx : (s.pushFrame).pfx = s.pfx := by simp only [State.pushFrame, State.push_pfx]
@[simp] theorem State.pushFrame_queue :
    (s.pushFrame).queue = s.queue := by simp only [State.pushFrame, State.push_queue]
@[simp] theorem State.pushFrame_prefetchPlan :
    (s.pushFrame).prefetchPlan = s.prefetchPlan := by simp only [State.pushFrame, State.push_prefetchPlan]
@[simp] theorem State.pushFrame_queueBefore :
    (s.pushFrame).queueBefore = s.queueBefore := by simp only [State.pushFrame, State.push_queueBefore]
@[simp] theorem State.pushFrame_pins : (s.pushFrame).pins = s.pins := by simp only [State.pushFrame, State.push_pins]
@[simp] theorem State.pushFrame_inputs :
    (s.pushFrame).inputs = s.inputs := by simp only [State.pushFrame, State.push_inputs]
@[simp] theorem State.pushFrame_ioIn : (s.pushFrame).ioIn = s.ioIn := by simp only [State.pushFrame, State.push_ioIn]
@[simp] theorem State.pushFrame_ioCtr :
    (s.pushFrame).ioCtr = s.ioCtr := by simp only [State.pushFrame, State.push_ioCtr]
@[simp] theorem State.pushFrame_ioOut :
    (s.pushFrame).ioOut = s.ioOut := by simp only [State.pushFrame, State.push_ioOut]
@[simp] theorem State.pushFrame_freeCtr :
    (s.pushFrame).freeCtr = s.freeCtr := by simp only [State.pushFrame, State.push_freeCtr]

/-! ### `interrupt` -/

@[simp] theorem State.interrupt_aw (n : Byte) : (s.interrupt n).aw = s.aw := State.pushFrame_aw s
@[simp] theorem State.interrupt_bw (n : Byte) : (s.interrupt n).bw = s.bw := State.pushFrame_bw s
@[simp] theorem State.interrupt_cw (n : Byte) : (s.interrupt n).cw = s.cw := State.pushFrame_cw s
@[simp] theorem State.interrupt_dw (n : Byte) : (s.interrupt n).dw = s.dw := State.pushFrame_dw s
@[simp] theorem State.interrupt_sp (n : Byte) : (s.interrupt n).sp = s.sp - 2 - 2 - 2 := State.pushFrame_sp s
@[simp] theorem State.interrupt_bp (n : Byte) : (s.interrupt n).bp = s.bp := State.pushFrame_bp s
@[simp] theorem State.interrupt_ix (n : Byte) : (s.interrupt n).ix = s.ix := State.pushFrame_ix s
@[simp] theorem State.interrupt_iy (n : Byte) : (s.interrupt n).iy = s.iy := State.pushFrame_iy s
@[simp] theorem State.interrupt_ps (n : Byte) : (s.interrupt n).ps = s.pushFrame.vectorSegment n := rfl
@[simp] theorem State.interrupt_ss (n : Byte) : (s.interrupt n).ss = s.ss := State.pushFrame_ss s
@[simp] theorem State.interrupt_ds0 (n : Byte) : (s.interrupt n).ds0 = s.ds0 := State.pushFrame_ds0 s
@[simp] theorem State.interrupt_ds1 (n : Byte) : (s.interrupt n).ds1 = s.ds1 := State.pushFrame_ds1 s
@[simp] theorem State.interrupt_pc (n : Byte) : (s.interrupt n).pc = s.pushFrame.vectorOffset n := rfl
@[simp] theorem State.interrupt_psw (n : Byte) :
    (s.interrupt n).psw = { s.psw with ie := false, brk := false, md := true } := by
  show { s.pushFrame.psw with ie := false, brk := false, md := true } = _
  rw [State.pushFrame_psw]
@[simp] theorem State.interrupt_mdWe (n : Byte) : (s.interrupt n).mdWe = s.mdWe := State.pushFrame_mdWe s
@[simp] theorem State.interrupt_nmiPending (n : Byte) :
    (s.interrupt n).nmiPending = s.nmiPending := State.pushFrame_nmiPending s
@[simp] theorem State.interrupt_inhibitAll (n : Byte) :
    (s.interrupt n).inhibitAll = s.inhibitAll := State.pushFrame_inhibitAll s
@[simp] theorem State.interrupt_inhibitInt (n : Byte) :
    (s.interrupt n).inhibitInt = s.inhibitInt := State.pushFrame_inhibitInt s
@[simp] theorem State.interrupt_halted (n : Byte) : (s.interrupt n).halted = s.halted := State.pushFrame_halted s
@[simp] theorem State.interrupt_haltLock (n : Byte) :
    (s.interrupt n).haltLock = s.haltLock := State.pushFrame_haltLock s
@[simp] theorem State.interrupt_suspended (n : Byte) :
    (s.interrupt n).suspended = s.suspended := State.pushFrame_suspended s
@[simp] theorem State.interrupt_pfx (n : Byte) : (s.interrupt n).pfx = s.pfx := State.pushFrame_pfx s
@[simp] theorem State.interrupt_queue (n : Byte) : (s.interrupt n).queue = [] := rfl
@[simp] theorem State.interrupt_prefetchPlan (n : Byte) :
    (s.interrupt n).prefetchPlan = s.prefetchPlan := State.pushFrame_prefetchPlan s
@[simp] theorem State.interrupt_queueBefore (n : Byte) :
    (s.interrupt n).queueBefore = s.queueBefore := State.pushFrame_queueBefore s
@[simp] theorem State.interrupt_pins (n : Byte) : (s.interrupt n).pins = s.pins := State.pushFrame_pins s
@[simp] theorem State.interrupt_inputs (n : Byte) : (s.interrupt n).inputs = s.inputs := State.pushFrame_inputs s
@[simp] theorem State.interrupt_ioIn (n : Byte) : (s.interrupt n).ioIn = s.ioIn := State.pushFrame_ioIn s
@[simp] theorem State.interrupt_ioCtr (n : Byte) : (s.interrupt n).ioCtr = s.ioCtr := State.pushFrame_ioCtr s
@[simp] theorem State.interrupt_ioOut (n : Byte) : (s.interrupt n).ioOut = s.ioOut := State.pushFrame_ioOut s
@[simp] theorem State.interrupt_freeCtr (n : Byte) : (s.interrupt n).freeCtr = s.freeCtr := State.pushFrame_freeCtr s
@[simp] theorem State.interrupt_mem (n : Byte) : (s.interrupt n).mem = s.pushFrame.mem := rfl

/-! ### `ioWrite8` -/

@[simp] theorem State.ioWrite8_aw (port : Word) (v : Byte) : (s.ioWrite8 port v).aw = s.aw := rfl
@[simp] theorem State.ioWrite8_bw (port : Word) (v : Byte) : (s.ioWrite8 port v).bw = s.bw := rfl
@[simp] theorem State.ioWrite8_cw (port : Word) (v : Byte) : (s.ioWrite8 port v).cw = s.cw := rfl
@[simp] theorem State.ioWrite8_dw (port : Word) (v : Byte) : (s.ioWrite8 port v).dw = s.dw := rfl
@[simp] theorem State.ioWrite8_sp (port : Word) (v : Byte) : (s.ioWrite8 port v).sp = s.sp := rfl
@[simp] theorem State.ioWrite8_bp (port : Word) (v : Byte) : (s.ioWrite8 port v).bp = s.bp := rfl
@[simp] theorem State.ioWrite8_ix (port : Word) (v : Byte) : (s.ioWrite8 port v).ix = s.ix := rfl
@[simp] theorem State.ioWrite8_iy (port : Word) (v : Byte) : (s.ioWrite8 port v).iy = s.iy := rfl
@[simp] theorem State.ioWrite8_ps (port : Word) (v : Byte) : (s.ioWrite8 port v).ps = s.ps := rfl
@[simp] theorem State.ioWrite8_ss (port : Word) (v : Byte) : (s.ioWrite8 port v).ss = s.ss := rfl
@[simp] theorem State.ioWrite8_ds0 (port : Word) (v : Byte) : (s.ioWrite8 port v).ds0 = s.ds0 := rfl
@[simp] theorem State.ioWrite8_ds1 (port : Word) (v : Byte) : (s.ioWrite8 port v).ds1 = s.ds1 := rfl
@[simp] theorem State.ioWrite8_pc (port : Word) (v : Byte) : (s.ioWrite8 port v).pc = s.pc := rfl
@[simp] theorem State.ioWrite8_psw (port : Word) (v : Byte) : (s.ioWrite8 port v).psw = s.psw := rfl
@[simp] theorem State.ioWrite8_mdWe (port : Word) (v : Byte) : (s.ioWrite8 port v).mdWe = s.mdWe := rfl
@[simp] theorem State.ioWrite8_nmiPending (port : Word) (v : Byte) :
    (s.ioWrite8 port v).nmiPending = s.nmiPending := rfl
@[simp] theorem State.ioWrite8_inhibitAll (port : Word) (v : Byte) :
    (s.ioWrite8 port v).inhibitAll = s.inhibitAll := rfl
@[simp] theorem State.ioWrite8_inhibitInt (port : Word) (v : Byte) :
    (s.ioWrite8 port v).inhibitInt = s.inhibitInt := rfl
@[simp] theorem State.ioWrite8_halted (port : Word) (v : Byte) : (s.ioWrite8 port v).halted = s.halted := rfl
@[simp] theorem State.ioWrite8_haltLock (port : Word) (v : Byte) : (s.ioWrite8 port v).haltLock = s.haltLock := rfl
@[simp] theorem State.ioWrite8_suspended (port : Word) (v : Byte) : (s.ioWrite8 port v).suspended = s.suspended := rfl
@[simp] theorem State.ioWrite8_pfx (port : Word) (v : Byte) : (s.ioWrite8 port v).pfx = s.pfx := rfl
@[simp] theorem State.ioWrite8_queue (port : Word) (v : Byte) : (s.ioWrite8 port v).queue = s.queue := rfl
@[simp] theorem State.ioWrite8_prefetchPlan (port : Word) (v : Byte) :
    (s.ioWrite8 port v).prefetchPlan = s.prefetchPlan := rfl
@[simp] theorem State.ioWrite8_queueBefore (port : Word) (v : Byte) :
    (s.ioWrite8 port v).queueBefore = s.queueBefore := rfl
@[simp] theorem State.ioWrite8_pins (port : Word) (v : Byte) : (s.ioWrite8 port v).pins = s.pins := rfl
@[simp] theorem State.ioWrite8_inputs (port : Word) (v : Byte) : (s.ioWrite8 port v).inputs = s.inputs := rfl
@[simp] theorem State.ioWrite8_ioIn (port : Word) (v : Byte) : (s.ioWrite8 port v).ioIn = s.ioIn := rfl
@[simp] theorem State.ioWrite8_ioCtr (port : Word) (v : Byte) : (s.ioWrite8 port v).ioCtr = s.ioCtr := rfl
@[simp] theorem State.ioWrite8_ioOut (port : Word) (v : Byte) : (s.ioWrite8 port v).ioOut = (port, v) :: s.ioOut := rfl
@[simp] theorem State.ioWrite8_freeCtr (port : Word) (v : Byte) : (s.ioWrite8 port v).freeCtr = s.freeCtr := rfl
@[simp] theorem State.ioWrite8_mem (port : Word) (v : Byte) : (s.ioWrite8 port v).mem = s.mem := rfl

/-! ### `ioWrite` -/

@[simp] theorem State.ioWrite_aw (w : Width) (port : Word) (v : BitVec w.bits) :
    (s.ioWrite w port v).aw = s.aw := by cases w <;> rfl
@[simp] theorem State.ioWrite_bw (w : Width) (port : Word) (v : BitVec w.bits) :
    (s.ioWrite w port v).bw = s.bw := by cases w <;> rfl
@[simp] theorem State.ioWrite_cw (w : Width) (port : Word) (v : BitVec w.bits) :
    (s.ioWrite w port v).cw = s.cw := by cases w <;> rfl
@[simp] theorem State.ioWrite_dw (w : Width) (port : Word) (v : BitVec w.bits) :
    (s.ioWrite w port v).dw = s.dw := by cases w <;> rfl
@[simp] theorem State.ioWrite_sp (w : Width) (port : Word) (v : BitVec w.bits) :
    (s.ioWrite w port v).sp = s.sp := by cases w <;> rfl
@[simp] theorem State.ioWrite_bp (w : Width) (port : Word) (v : BitVec w.bits) :
    (s.ioWrite w port v).bp = s.bp := by cases w <;> rfl
@[simp] theorem State.ioWrite_ix (w : Width) (port : Word) (v : BitVec w.bits) :
    (s.ioWrite w port v).ix = s.ix := by cases w <;> rfl
@[simp] theorem State.ioWrite_iy (w : Width) (port : Word) (v : BitVec w.bits) :
    (s.ioWrite w port v).iy = s.iy := by cases w <;> rfl
@[simp] theorem State.ioWrite_ps (w : Width) (port : Word) (v : BitVec w.bits) :
    (s.ioWrite w port v).ps = s.ps := by cases w <;> rfl
@[simp] theorem State.ioWrite_ss (w : Width) (port : Word) (v : BitVec w.bits) :
    (s.ioWrite w port v).ss = s.ss := by cases w <;> rfl
@[simp] theorem State.ioWrite_ds0 (w : Width) (port : Word) (v : BitVec w.bits) :
    (s.ioWrite w port v).ds0 = s.ds0 := by cases w <;> rfl
@[simp] theorem State.ioWrite_ds1 (w : Width) (port : Word) (v : BitVec w.bits) :
    (s.ioWrite w port v).ds1 = s.ds1 := by cases w <;> rfl
@[simp] theorem State.ioWrite_pc (w : Width) (port : Word) (v : BitVec w.bits) :
    (s.ioWrite w port v).pc = s.pc := by cases w <;> rfl
@[simp] theorem State.ioWrite_psw (w : Width) (port : Word) (v : BitVec w.bits) :
    (s.ioWrite w port v).psw = s.psw := by cases w <;> rfl
@[simp] theorem State.ioWrite_mdWe (w : Width) (port : Word) (v : BitVec w.bits) :
    (s.ioWrite w port v).mdWe = s.mdWe := by cases w <;> rfl
@[simp] theorem State.ioWrite_nmiPending (w : Width) (port : Word) (v : BitVec w.bits) :
    (s.ioWrite w port v).nmiPending = s.nmiPending := by cases w <;> rfl
@[simp] theorem State.ioWrite_inhibitAll (w : Width) (port : Word) (v : BitVec w.bits) :
    (s.ioWrite w port v).inhibitAll = s.inhibitAll := by cases w <;> rfl
@[simp] theorem State.ioWrite_inhibitInt (w : Width) (port : Word) (v : BitVec w.bits) :
    (s.ioWrite w port v).inhibitInt = s.inhibitInt := by cases w <;> rfl
@[simp] theorem State.ioWrite_halted (w : Width) (port : Word) (v : BitVec w.bits) :
    (s.ioWrite w port v).halted = s.halted := by cases w <;> rfl
@[simp] theorem State.ioWrite_haltLock (w : Width) (port : Word) (v : BitVec w.bits) :
    (s.ioWrite w port v).haltLock = s.haltLock := by cases w <;> rfl
@[simp] theorem State.ioWrite_suspended (w : Width) (port : Word) (v : BitVec w.bits) :
    (s.ioWrite w port v).suspended = s.suspended := by cases w <;> rfl
@[simp] theorem State.ioWrite_pfx (w : Width) (port : Word) (v : BitVec w.bits) :
    (s.ioWrite w port v).pfx = s.pfx := by cases w <;> rfl
@[simp] theorem State.ioWrite_queue (w : Width) (port : Word) (v : BitVec w.bits) :
    (s.ioWrite w port v).queue = s.queue := by cases w <;> rfl
@[simp] theorem State.ioWrite_prefetchPlan (w : Width) (port : Word) (v : BitVec w.bits) :
    (s.ioWrite w port v).prefetchPlan = s.prefetchPlan := by cases w <;> rfl
@[simp] theorem State.ioWrite_queueBefore (w : Width) (port : Word) (v : BitVec w.bits) :
    (s.ioWrite w port v).queueBefore = s.queueBefore := by cases w <;> rfl
@[simp] theorem State.ioWrite_pins (w : Width) (port : Word) (v : BitVec w.bits) :
    (s.ioWrite w port v).pins = s.pins := by cases w <;> rfl
@[simp] theorem State.ioWrite_inputs (w : Width) (port : Word) (v : BitVec w.bits) :
    (s.ioWrite w port v).inputs = s.inputs := by cases w <;> rfl
@[simp] theorem State.ioWrite_ioIn (w : Width) (port : Word) (v : BitVec w.bits) :
    (s.ioWrite w port v).ioIn = s.ioIn := by cases w <;> rfl
@[simp] theorem State.ioWrite_ioCtr (w : Width) (port : Word) (v : BitVec w.bits) :
    (s.ioWrite w port v).ioCtr = s.ioCtr := by cases w <;> rfl
@[simp] theorem State.ioWrite_freeCtr (w : Width) (port : Word) (v : BitVec w.bits) :
    (s.ioWrite w port v).freeCtr = s.freeCtr := by cases w <;> rfl
@[simp] theorem State.ioWrite_mem (w : Width) (port : Word) (v : BitVec w.bits) :
    (s.ioWrite w port v).mem = s.mem := by cases w <;> rfl

/-! ### `prefetch` -/

@[simp] theorem State.prefetch_aw : (s.prefetch).aw = s.aw := by unfold State.prefetch; split <;> rfl
@[simp] theorem State.prefetch_bw : (s.prefetch).bw = s.bw := by unfold State.prefetch; split <;> rfl
@[simp] theorem State.prefetch_cw : (s.prefetch).cw = s.cw := by unfold State.prefetch; split <;> rfl
@[simp] theorem State.prefetch_dw : (s.prefetch).dw = s.dw := by unfold State.prefetch; split <;> rfl
@[simp] theorem State.prefetch_sp : (s.prefetch).sp = s.sp := by unfold State.prefetch; split <;> rfl
@[simp] theorem State.prefetch_bp : (s.prefetch).bp = s.bp := by unfold State.prefetch; split <;> rfl
@[simp] theorem State.prefetch_ix : (s.prefetch).ix = s.ix := by unfold State.prefetch; split <;> rfl
@[simp] theorem State.prefetch_iy : (s.prefetch).iy = s.iy := by unfold State.prefetch; split <;> rfl
@[simp] theorem State.prefetch_ps : (s.prefetch).ps = s.ps := by unfold State.prefetch; split <;> rfl
@[simp] theorem State.prefetch_ss : (s.prefetch).ss = s.ss := by unfold State.prefetch; split <;> rfl
@[simp] theorem State.prefetch_ds0 : (s.prefetch).ds0 = s.ds0 := by unfold State.prefetch; split <;> rfl
@[simp] theorem State.prefetch_ds1 : (s.prefetch).ds1 = s.ds1 := by unfold State.prefetch; split <;> rfl
@[simp] theorem State.prefetch_pc : (s.prefetch).pc = s.pc := by unfold State.prefetch; split <;> rfl
@[simp] theorem State.prefetch_psw : (s.prefetch).psw = s.psw := by unfold State.prefetch; split <;> rfl
@[simp] theorem State.prefetch_mdWe : (s.prefetch).mdWe = s.mdWe := by unfold State.prefetch; split <;> rfl
@[simp] theorem State.prefetch_nmiPending :
    (s.prefetch).nmiPending = s.nmiPending := by unfold State.prefetch; split <;> rfl
@[simp] theorem State.prefetch_inhibitAll :
    (s.prefetch).inhibitAll = s.inhibitAll := by unfold State.prefetch; split <;> rfl
@[simp] theorem State.prefetch_inhibitInt :
    (s.prefetch).inhibitInt = s.inhibitInt := by unfold State.prefetch; split <;> rfl
@[simp] theorem State.prefetch_halted : (s.prefetch).halted = s.halted := by unfold State.prefetch; split <;> rfl
@[simp] theorem State.prefetch_haltLock : (s.prefetch).haltLock = s.haltLock := by unfold State.prefetch; split <;> rfl
@[simp] theorem State.prefetch_suspended :
    (s.prefetch).suspended = s.suspended := by unfold State.prefetch; split <;> rfl
@[simp] theorem State.prefetch_pfx : (s.prefetch).pfx = s.pfx := by unfold State.prefetch; split <;> rfl
@[simp] theorem State.prefetch_queueBefore :
    (s.prefetch).queueBefore = s.queueBefore := by unfold State.prefetch; split <;> rfl
@[simp] theorem State.prefetch_pins : (s.prefetch).pins = s.pins := by unfold State.prefetch; split <;> rfl
@[simp] theorem State.prefetch_inputs : (s.prefetch).inputs = s.inputs := by unfold State.prefetch; split <;> rfl
@[simp] theorem State.prefetch_ioIn : (s.prefetch).ioIn = s.ioIn := by unfold State.prefetch; split <;> rfl
@[simp] theorem State.prefetch_ioCtr : (s.prefetch).ioCtr = s.ioCtr := by unfold State.prefetch; split <;> rfl
@[simp] theorem State.prefetch_ioOut : (s.prefetch).ioOut = s.ioOut := by unfold State.prefetch; split <;> rfl
@[simp] theorem State.prefetch_freeCtr : (s.prefetch).freeCtr = s.freeCtr := by unfold State.prefetch; split <;> rfl
@[simp] theorem State.prefetch_mem : (s.prefetch).mem = s.mem := by unfold State.prefetch; split <;> rfl

/-! ### `sample` -/

@[simp] theorem State.sample_aw : (s.sample).aw = s.aw := by unfold State.sample; split <;> rfl
@[simp] theorem State.sample_bw : (s.sample).bw = s.bw := by unfold State.sample; split <;> rfl
@[simp] theorem State.sample_cw : (s.sample).cw = s.cw := by unfold State.sample; split <;> rfl
@[simp] theorem State.sample_dw : (s.sample).dw = s.dw := by unfold State.sample; split <;> rfl
@[simp] theorem State.sample_sp : (s.sample).sp = s.sp := by unfold State.sample; split <;> rfl
@[simp] theorem State.sample_bp : (s.sample).bp = s.bp := by unfold State.sample; split <;> rfl
@[simp] theorem State.sample_ix : (s.sample).ix = s.ix := by unfold State.sample; split <;> rfl
@[simp] theorem State.sample_iy : (s.sample).iy = s.iy := by unfold State.sample; split <;> rfl
@[simp] theorem State.sample_ps : (s.sample).ps = s.ps := by unfold State.sample; split <;> rfl
@[simp] theorem State.sample_ss : (s.sample).ss = s.ss := by unfold State.sample; split <;> rfl
@[simp] theorem State.sample_ds0 : (s.sample).ds0 = s.ds0 := by unfold State.sample; split <;> rfl
@[simp] theorem State.sample_ds1 : (s.sample).ds1 = s.ds1 := by unfold State.sample; split <;> rfl
@[simp] theorem State.sample_pc : (s.sample).pc = s.pc := by unfold State.sample; split <;> rfl
@[simp] theorem State.sample_psw : (s.sample).psw = s.psw := by unfold State.sample; split <;> rfl
@[simp] theorem State.sample_mdWe : (s.sample).mdWe = s.mdWe := by unfold State.sample; split <;> rfl
@[simp] theorem State.sample_inhibitAll : (s.sample).inhibitAll = s.inhibitAll := by unfold State.sample; split <;> rfl
@[simp] theorem State.sample_inhibitInt : (s.sample).inhibitInt = s.inhibitInt := by unfold State.sample; split <;> rfl
@[simp] theorem State.sample_halted : (s.sample).halted = s.halted := by unfold State.sample; split <;> rfl
@[simp] theorem State.sample_haltLock : (s.sample).haltLock = s.haltLock := by unfold State.sample; split <;> rfl
@[simp] theorem State.sample_suspended : (s.sample).suspended = s.suspended := by unfold State.sample; split <;> rfl
@[simp] theorem State.sample_pfx : (s.sample).pfx = s.pfx := by unfold State.sample; split <;> rfl
@[simp] theorem State.sample_queue : (s.sample).queue = s.queue := by unfold State.sample; split <;> rfl
@[simp] theorem State.sample_prefetchPlan :
    (s.sample).prefetchPlan = s.prefetchPlan := by unfold State.sample; split <;> rfl
@[simp] theorem State.sample_queueBefore :
    (s.sample).queueBefore = s.queueBefore := by unfold State.sample; split <;> rfl
@[simp] theorem State.sample_ioIn : (s.sample).ioIn = s.ioIn := by unfold State.sample; split <;> rfl
@[simp] theorem State.sample_ioCtr : (s.sample).ioCtr = s.ioCtr := by unfold State.sample; split <;> rfl
@[simp] theorem State.sample_ioOut : (s.sample).ioOut = s.ioOut := by unfold State.sample; split <;> rfl
@[simp] theorem State.sample_freeCtr : (s.sample).freeCtr = s.freeCtr := by unfold State.sample; split <;> rfl
@[simp] theorem State.sample_mem : (s.sample).mem = s.mem := by unfold State.sample; split <;> rfl

/-! ### `issue` -/

@[simp] theorem State.issue_aw (n : Nat) : (s.issue n).aw = s.aw := by unfold State.issue State.prefetch; split <;> rfl
@[simp] theorem State.issue_bw (n : Nat) : (s.issue n).bw = s.bw := by unfold State.issue State.prefetch; split <;> rfl
@[simp] theorem State.issue_cw (n : Nat) : (s.issue n).cw = s.cw := by unfold State.issue State.prefetch; split <;> rfl
@[simp] theorem State.issue_dw (n : Nat) : (s.issue n).dw = s.dw := by unfold State.issue State.prefetch; split <;> rfl
@[simp] theorem State.issue_sp (n : Nat) : (s.issue n).sp = s.sp := by unfold State.issue State.prefetch; split <;> rfl
@[simp] theorem State.issue_bp (n : Nat) : (s.issue n).bp = s.bp := by unfold State.issue State.prefetch; split <;> rfl
@[simp] theorem State.issue_ix (n : Nat) : (s.issue n).ix = s.ix := by unfold State.issue State.prefetch; split <;> rfl
@[simp] theorem State.issue_iy (n : Nat) : (s.issue n).iy = s.iy := by unfold State.issue State.prefetch; split <;> rfl
@[simp] theorem State.issue_ps (n : Nat) : (s.issue n).ps = s.ps := by unfold State.issue State.prefetch; split <;> rfl
@[simp] theorem State.issue_ss (n : Nat) : (s.issue n).ss = s.ss := by unfold State.issue State.prefetch; split <;> rfl
@[simp] theorem State.issue_ds0 (n : Nat) :
    (s.issue n).ds0 = s.ds0 := by unfold State.issue State.prefetch; split <;> rfl
@[simp] theorem State.issue_ds1 (n : Nat) :
    (s.issue n).ds1 = s.ds1 := by unfold State.issue State.prefetch; split <;> rfl
@[simp] theorem State.issue_pc (n : Nat) :
    (s.issue n).pc = s.pc + BitVec.ofNat 16 n := by unfold State.issue State.prefetch; split <;> rfl
@[simp] theorem State.issue_psw (n : Nat) :
    (s.issue n).psw = s.psw := by unfold State.issue State.prefetch; split <;> rfl
@[simp] theorem State.issue_mdWe (n : Nat) :
    (s.issue n).mdWe = s.mdWe := by unfold State.issue State.prefetch; split <;> rfl
@[simp] theorem State.issue_nmiPending (n : Nat) :
    (s.issue n).nmiPending = s.nmiPending := by unfold State.issue State.prefetch; split <;> rfl
@[simp] theorem State.issue_inhibitAll (n : Nat) :
    (s.issue n).inhibitAll = s.inhibitAll := by unfold State.issue State.prefetch; split <;> rfl
@[simp] theorem State.issue_inhibitInt (n : Nat) :
    (s.issue n).inhibitInt = s.inhibitInt := by unfold State.issue State.prefetch; split <;> rfl
@[simp] theorem State.issue_halted (n : Nat) :
    (s.issue n).halted = s.halted := by unfold State.issue State.prefetch; split <;> rfl
@[simp] theorem State.issue_haltLock (n : Nat) :
    (s.issue n).haltLock = s.haltLock := by unfold State.issue State.prefetch; split <;> rfl
@[simp] theorem State.issue_suspended (n : Nat) :
    (s.issue n).suspended = false := by unfold State.issue State.prefetch; split <;> rfl
@[simp] theorem State.issue_pfx (n : Nat) :
    (s.issue n).pfx = s.pfx := by unfold State.issue State.prefetch; split <;> rfl
@[simp] theorem State.issue_queueBefore (n : Nat) :
    (s.issue n).queueBefore = if s.pfx.count = 0 then s.queue else s.queueBefore := by unfold State.issue State.prefetch; split <;> rfl
@[simp] theorem State.issue_pins (n : Nat) :
    (s.issue n).pins = s.pins := by unfold State.issue State.prefetch; split <;> rfl
@[simp] theorem State.issue_inputs (n : Nat) :
    (s.issue n).inputs = s.inputs := by unfold State.issue State.prefetch; split <;> rfl
@[simp] theorem State.issue_ioIn (n : Nat) :
    (s.issue n).ioIn = s.ioIn := by unfold State.issue State.prefetch; split <;> rfl
@[simp] theorem State.issue_ioCtr (n : Nat) :
    (s.issue n).ioCtr = s.ioCtr := by unfold State.issue State.prefetch; split <;> rfl
@[simp] theorem State.issue_ioOut (n : Nat) :
    (s.issue n).ioOut = s.ioOut := by unfold State.issue State.prefetch; split <;> rfl
@[simp] theorem State.issue_freeCtr (n : Nat) :
    (s.issue n).freeCtr = s.freeCtr := by unfold State.issue State.prefetch; split <;> rfl
@[simp] theorem State.issue_mem (n : Nat) :
    (s.issue n).mem = s.mem := by unfold State.issue State.prefetch; split <;> rfl

/-! ### `endInstruction` -/

@[simp] theorem State.endInstruction_aw (i : Instr) : (s.endInstruction i).aw = s.aw := rfl
@[simp] theorem State.endInstruction_bw (i : Instr) : (s.endInstruction i).bw = s.bw := rfl
@[simp] theorem State.endInstruction_cw (i : Instr) : (s.endInstruction i).cw = s.cw := rfl
@[simp] theorem State.endInstruction_dw (i : Instr) : (s.endInstruction i).dw = s.dw := rfl
@[simp] theorem State.endInstruction_sp (i : Instr) : (s.endInstruction i).sp = s.sp := rfl
@[simp] theorem State.endInstruction_bp (i : Instr) : (s.endInstruction i).bp = s.bp := rfl
@[simp] theorem State.endInstruction_ix (i : Instr) : (s.endInstruction i).ix = s.ix := rfl
@[simp] theorem State.endInstruction_iy (i : Instr) : (s.endInstruction i).iy = s.iy := rfl
@[simp] theorem State.endInstruction_ps (i : Instr) : (s.endInstruction i).ps = s.ps := rfl
@[simp] theorem State.endInstruction_ss (i : Instr) : (s.endInstruction i).ss = s.ss := rfl
@[simp] theorem State.endInstruction_ds0 (i : Instr) : (s.endInstruction i).ds0 = s.ds0 := rfl
@[simp] theorem State.endInstruction_ds1 (i : Instr) : (s.endInstruction i).ds1 = s.ds1 := rfl
@[simp] theorem State.endInstruction_pc (i : Instr) : (s.endInstruction i).pc = s.pc := rfl
@[simp] theorem State.endInstruction_psw (i : Instr) : (s.endInstruction i).psw = s.psw := rfl
@[simp] theorem State.endInstruction_mdWe (i : Instr) : (s.endInstruction i).mdWe = s.mdWe := rfl
@[simp] theorem State.endInstruction_nmiPending (i : Instr) : (s.endInstruction i).nmiPending = s.nmiPending := rfl
@[simp] theorem State.endInstruction_inhibitAll (i : Instr) :
    (s.endInstruction i).inhibitAll = (opensWindowAll i && s.inhibitAll) := rfl
@[simp] theorem State.endInstruction_inhibitInt (i : Instr) :
    (s.endInstruction i).inhibitInt = (opensWindowInt i && s.inhibitInt) := rfl
@[simp] theorem State.endInstruction_halted (i : Instr) : (s.endInstruction i).halted = s.halted := rfl
@[simp] theorem State.endInstruction_haltLock (i : Instr) : (s.endInstruction i).haltLock = s.haltLock := rfl
@[simp] theorem State.endInstruction_suspended (i : Instr) : (s.endInstruction i).suspended = s.suspended := rfl
@[simp] theorem State.endInstruction_pfx (i : Instr) : (s.endInstruction i).pfx = Prefixes.none := rfl
@[simp] theorem State.endInstruction_queue (i : Instr) : (s.endInstruction i).queue = s.queue := rfl
@[simp] theorem State.endInstruction_prefetchPlan (i : Instr) :
    (s.endInstruction i).prefetchPlan = s.prefetchPlan := rfl
@[simp] theorem State.endInstruction_queueBefore (i : Instr) : (s.endInstruction i).queueBefore = s.queueBefore := rfl
@[simp] theorem State.endInstruction_pins (i : Instr) : (s.endInstruction i).pins = s.pins := rfl
@[simp] theorem State.endInstruction_inputs (i : Instr) : (s.endInstruction i).inputs = s.inputs := rfl
@[simp] theorem State.endInstruction_ioIn (i : Instr) : (s.endInstruction i).ioIn = s.ioIn := rfl
@[simp] theorem State.endInstruction_ioCtr (i : Instr) : (s.endInstruction i).ioCtr = s.ioCtr := rfl
@[simp] theorem State.endInstruction_ioOut (i : Instr) : (s.endInstruction i).ioOut = s.ioOut := rfl
@[simp] theorem State.endInstruction_freeCtr (i : Instr) : (s.endInstruction i).freeCtr = s.freeCtr := rfl
@[simp] theorem State.endInstruction_mem (i : Instr) : (s.endInstruction i).mem = s.mem := rfl

/-! ### `retryOneByte` -/

@[simp] theorem State.retryOneByte_aw : (s.retryOneByte).aw = s.aw := rfl
@[simp] theorem State.retryOneByte_bw : (s.retryOneByte).bw = s.bw := rfl
@[simp] theorem State.retryOneByte_cw : (s.retryOneByte).cw = s.cw := rfl
@[simp] theorem State.retryOneByte_dw : (s.retryOneByte).dw = s.dw := rfl
@[simp] theorem State.retryOneByte_sp : (s.retryOneByte).sp = s.sp := rfl
@[simp] theorem State.retryOneByte_bp : (s.retryOneByte).bp = s.bp := rfl
@[simp] theorem State.retryOneByte_ix : (s.retryOneByte).ix = s.ix := rfl
@[simp] theorem State.retryOneByte_iy : (s.retryOneByte).iy = s.iy := rfl
@[simp] theorem State.retryOneByte_ps : (s.retryOneByte).ps = s.ps := rfl
@[simp] theorem State.retryOneByte_ss : (s.retryOneByte).ss = s.ss := rfl
@[simp] theorem State.retryOneByte_ds0 : (s.retryOneByte).ds0 = s.ds0 := rfl
@[simp] theorem State.retryOneByte_ds1 : (s.retryOneByte).ds1 = s.ds1 := rfl
@[simp] theorem State.retryOneByte_pc : (s.retryOneByte).pc = s.startOfOneByte := rfl
@[simp] theorem State.retryOneByte_psw : (s.retryOneByte).psw = s.psw := rfl
@[simp] theorem State.retryOneByte_mdWe : (s.retryOneByte).mdWe = s.mdWe := rfl
@[simp] theorem State.retryOneByte_nmiPending : (s.retryOneByte).nmiPending = s.nmiPending := rfl
@[simp] theorem State.retryOneByte_inhibitAll : (s.retryOneByte).inhibitAll = s.inhibitAll := rfl
@[simp] theorem State.retryOneByte_inhibitInt : (s.retryOneByte).inhibitInt = s.inhibitInt := rfl
@[simp] theorem State.retryOneByte_halted : (s.retryOneByte).halted = s.halted := rfl
@[simp] theorem State.retryOneByte_haltLock : (s.retryOneByte).haltLock = s.haltLock := rfl
@[simp] theorem State.retryOneByte_suspended : (s.retryOneByte).suspended = s.suspended := rfl
@[simp] theorem State.retryOneByte_pfx : (s.retryOneByte).pfx = s.pfx := rfl
@[simp] theorem State.retryOneByte_queue : (s.retryOneByte).queue = s.queueBefore := rfl
@[simp] theorem State.retryOneByte_prefetchPlan : (s.retryOneByte).prefetchPlan = s.prefetchPlan := rfl
@[simp] theorem State.retryOneByte_queueBefore : (s.retryOneByte).queueBefore = s.queueBefore := rfl
@[simp] theorem State.retryOneByte_pins : (s.retryOneByte).pins = s.pins := rfl
@[simp] theorem State.retryOneByte_inputs : (s.retryOneByte).inputs = s.inputs := rfl
@[simp] theorem State.retryOneByte_ioIn : (s.retryOneByte).ioIn = s.ioIn := rfl
@[simp] theorem State.retryOneByte_ioCtr : (s.retryOneByte).ioCtr = s.ioCtr := rfl
@[simp] theorem State.retryOneByte_ioOut : (s.retryOneByte).ioOut = s.ioOut := rfl
@[simp] theorem State.retryOneByte_freeCtr : (s.retryOneByte).freeCtr = s.freeCtr := rfl
@[simp] theorem State.retryOneByte_mem : (s.retryOneByte).mem = s.mem := rfl

/-! ### `inhibitingAll` -/

@[simp] theorem State.inhibitingAll_aw : (s.inhibitingAll).aw = s.aw := rfl
@[simp] theorem State.inhibitingAll_bw : (s.inhibitingAll).bw = s.bw := rfl
@[simp] theorem State.inhibitingAll_cw : (s.inhibitingAll).cw = s.cw := rfl
@[simp] theorem State.inhibitingAll_dw : (s.inhibitingAll).dw = s.dw := rfl
@[simp] theorem State.inhibitingAll_sp : (s.inhibitingAll).sp = s.sp := rfl
@[simp] theorem State.inhibitingAll_bp : (s.inhibitingAll).bp = s.bp := rfl
@[simp] theorem State.inhibitingAll_ix : (s.inhibitingAll).ix = s.ix := rfl
@[simp] theorem State.inhibitingAll_iy : (s.inhibitingAll).iy = s.iy := rfl
@[simp] theorem State.inhibitingAll_ps : (s.inhibitingAll).ps = s.ps := rfl
@[simp] theorem State.inhibitingAll_ss : (s.inhibitingAll).ss = s.ss := rfl
@[simp] theorem State.inhibitingAll_ds0 : (s.inhibitingAll).ds0 = s.ds0 := rfl
@[simp] theorem State.inhibitingAll_ds1 : (s.inhibitingAll).ds1 = s.ds1 := rfl
@[simp] theorem State.inhibitingAll_pc : (s.inhibitingAll).pc = s.pc := rfl
@[simp] theorem State.inhibitingAll_psw : (s.inhibitingAll).psw = s.psw := rfl
@[simp] theorem State.inhibitingAll_mdWe : (s.inhibitingAll).mdWe = s.mdWe := rfl
@[simp] theorem State.inhibitingAll_nmiPending : (s.inhibitingAll).nmiPending = s.nmiPending := rfl
@[simp] theorem State.inhibitingAll_inhibitAll : (s.inhibitingAll).inhibitAll = true := rfl
@[simp] theorem State.inhibitingAll_inhibitInt : (s.inhibitingAll).inhibitInt = s.inhibitInt := rfl
@[simp] theorem State.inhibitingAll_halted : (s.inhibitingAll).halted = s.halted := rfl
@[simp] theorem State.inhibitingAll_haltLock : (s.inhibitingAll).haltLock = s.haltLock := rfl
@[simp] theorem State.inhibitingAll_suspended : (s.inhibitingAll).suspended = s.suspended := rfl
@[simp] theorem State.inhibitingAll_pfx : (s.inhibitingAll).pfx = s.pfx := rfl
@[simp] theorem State.inhibitingAll_queue : (s.inhibitingAll).queue = s.queue := rfl
@[simp] theorem State.inhibitingAll_prefetchPlan : (s.inhibitingAll).prefetchPlan = s.prefetchPlan := rfl
@[simp] theorem State.inhibitingAll_queueBefore : (s.inhibitingAll).queueBefore = s.queueBefore := rfl
@[simp] theorem State.inhibitingAll_pins : (s.inhibitingAll).pins = s.pins := rfl
@[simp] theorem State.inhibitingAll_inputs : (s.inhibitingAll).inputs = s.inputs := rfl
@[simp] theorem State.inhibitingAll_ioIn : (s.inhibitingAll).ioIn = s.ioIn := rfl
@[simp] theorem State.inhibitingAll_ioCtr : (s.inhibitingAll).ioCtr = s.ioCtr := rfl
@[simp] theorem State.inhibitingAll_ioOut : (s.inhibitingAll).ioOut = s.ioOut := rfl
@[simp] theorem State.inhibitingAll_freeCtr : (s.inhibitingAll).freeCtr = s.freeCtr := rfl
@[simp] theorem State.inhibitingAll_mem : (s.inhibitingAll).mem = s.mem := rfl

/-! ### `decCw` -/

@[simp] theorem State.decCw_aw : (s.decCw).aw = s.aw := rfl
@[simp] theorem State.decCw_bw : (s.decCw).bw = s.bw := rfl
@[simp] theorem State.decCw_cw : (s.decCw).cw = s.cw - 1 := rfl
@[simp] theorem State.decCw_dw : (s.decCw).dw = s.dw := rfl
@[simp] theorem State.decCw_sp : (s.decCw).sp = s.sp := rfl
@[simp] theorem State.decCw_bp : (s.decCw).bp = s.bp := rfl
@[simp] theorem State.decCw_ix : (s.decCw).ix = s.ix := rfl
@[simp] theorem State.decCw_iy : (s.decCw).iy = s.iy := rfl
@[simp] theorem State.decCw_ps : (s.decCw).ps = s.ps := rfl
@[simp] theorem State.decCw_ss : (s.decCw).ss = s.ss := rfl
@[simp] theorem State.decCw_ds0 : (s.decCw).ds0 = s.ds0 := rfl
@[simp] theorem State.decCw_ds1 : (s.decCw).ds1 = s.ds1 := rfl
@[simp] theorem State.decCw_pc : (s.decCw).pc = s.pc := rfl
@[simp] theorem State.decCw_psw : (s.decCw).psw = s.psw := rfl
@[simp] theorem State.decCw_mdWe : (s.decCw).mdWe = s.mdWe := rfl
@[simp] theorem State.decCw_nmiPending : (s.decCw).nmiPending = s.nmiPending := rfl
@[simp] theorem State.decCw_inhibitAll : (s.decCw).inhibitAll = s.inhibitAll := rfl
@[simp] theorem State.decCw_inhibitInt : (s.decCw).inhibitInt = s.inhibitInt := rfl
@[simp] theorem State.decCw_halted : (s.decCw).halted = s.halted := rfl
@[simp] theorem State.decCw_haltLock : (s.decCw).haltLock = s.haltLock := rfl
@[simp] theorem State.decCw_suspended : (s.decCw).suspended = s.suspended := rfl
@[simp] theorem State.decCw_pfx : (s.decCw).pfx = s.pfx := rfl
@[simp] theorem State.decCw_queue : (s.decCw).queue = s.queue := rfl
@[simp] theorem State.decCw_prefetchPlan : (s.decCw).prefetchPlan = s.prefetchPlan := rfl
@[simp] theorem State.decCw_queueBefore : (s.decCw).queueBefore = s.queueBefore := rfl
@[simp] theorem State.decCw_pins : (s.decCw).pins = s.pins := rfl
@[simp] theorem State.decCw_inputs : (s.decCw).inputs = s.inputs := rfl
@[simp] theorem State.decCw_ioIn : (s.decCw).ioIn = s.ioIn := rfl
@[simp] theorem State.decCw_ioCtr : (s.decCw).ioCtr = s.ioCtr := rfl
@[simp] theorem State.decCw_ioOut : (s.decCw).ioOut = s.ioOut := rfl
@[simp] theorem State.decCw_freeCtr : (s.decCw).freeCtr = s.freeCtr := rfl
@[simp] theorem State.decCw_mem : (s.decCw).mem = s.mem := rfl

/-! ### `suspend` -/

@[simp] theorem State.suspend_aw : (s.suspend).aw = s.aw := rfl
@[simp] theorem State.suspend_bw : (s.suspend).bw = s.bw := rfl
@[simp] theorem State.suspend_cw : (s.suspend).cw = s.cw := rfl
@[simp] theorem State.suspend_dw : (s.suspend).dw = s.dw := rfl
@[simp] theorem State.suspend_sp : (s.suspend).sp = s.sp := rfl
@[simp] theorem State.suspend_bp : (s.suspend).bp = s.bp := rfl
@[simp] theorem State.suspend_ix : (s.suspend).ix = s.ix := rfl
@[simp] theorem State.suspend_iy : (s.suspend).iy = s.iy := rfl
@[simp] theorem State.suspend_ps : (s.suspend).ps = s.ps := rfl
@[simp] theorem State.suspend_ss : (s.suspend).ss = s.ss := rfl
@[simp] theorem State.suspend_ds0 : (s.suspend).ds0 = s.ds0 := rfl
@[simp] theorem State.suspend_ds1 : (s.suspend).ds1 = s.ds1 := rfl
@[simp] theorem State.suspend_pc : (s.suspend).pc = s.pc - 1 - BitVec.ofNat 16 (min s.pfx.count 3) := rfl
@[simp] theorem State.suspend_psw : (s.suspend).psw = s.psw := rfl
@[simp] theorem State.suspend_mdWe : (s.suspend).mdWe = s.mdWe := rfl
@[simp] theorem State.suspend_nmiPending : (s.suspend).nmiPending = s.nmiPending := rfl
@[simp] theorem State.suspend_inhibitAll : (s.suspend).inhibitAll = s.inhibitAll := rfl
@[simp] theorem State.suspend_inhibitInt : (s.suspend).inhibitInt = s.inhibitInt := rfl
@[simp] theorem State.suspend_halted : (s.suspend).halted = s.halted := rfl
@[simp] theorem State.suspend_haltLock : (s.suspend).haltLock = s.haltLock := rfl
@[simp] theorem State.suspend_suspended : (s.suspend).suspended = true := rfl
@[simp] theorem State.suspend_pfx : (s.suspend).pfx = s.pfx := rfl
@[simp] theorem State.suspend_queue : (s.suspend).queue = [] := rfl
@[simp] theorem State.suspend_prefetchPlan : (s.suspend).prefetchPlan = s.prefetchPlan := rfl
@[simp] theorem State.suspend_queueBefore : (s.suspend).queueBefore = s.queueBefore := rfl
@[simp] theorem State.suspend_pins : (s.suspend).pins = s.pins := rfl
@[simp] theorem State.suspend_inputs : (s.suspend).inputs = s.inputs := rfl
@[simp] theorem State.suspend_ioIn : (s.suspend).ioIn = s.ioIn := rfl
@[simp] theorem State.suspend_ioCtr : (s.suspend).ioCtr = s.ioCtr := rfl
@[simp] theorem State.suspend_ioOut : (s.suspend).ioOut = s.ioOut := rfl
@[simp] theorem State.suspend_freeCtr : (s.suspend).freeCtr = s.freeCtr := rfl
@[simp] theorem State.suspend_mem : (s.suspend).mem = s.mem := rfl

/-! ### `countDown` -/

@[simp] theorem State.countDown_aw : (s.countDown).aw = s.aw := rfl
@[simp] theorem State.countDown_bw : (s.countDown).bw = s.bw := rfl
@[simp] theorem State.countDown_cw : (s.countDown).cw = s.cw - 1 := rfl
@[simp] theorem State.countDown_dw : (s.countDown).dw = s.dw := rfl
@[simp] theorem State.countDown_sp : (s.countDown).sp = s.sp := rfl
@[simp] theorem State.countDown_bp : (s.countDown).bp = s.bp := rfl
@[simp] theorem State.countDown_ix : (s.countDown).ix = s.ix := rfl
@[simp] theorem State.countDown_iy : (s.countDown).iy = s.iy := rfl
@[simp] theorem State.countDown_ps : (s.countDown).ps = s.ps := rfl
@[simp] theorem State.countDown_ss : (s.countDown).ss = s.ss := rfl
@[simp] theorem State.countDown_ds0 : (s.countDown).ds0 = s.ds0 := rfl
@[simp] theorem State.countDown_ds1 : (s.countDown).ds1 = s.ds1 := rfl
@[simp] theorem State.countDown_pc : (s.countDown).pc = s.pc := rfl
@[simp] theorem State.countDown_psw : (s.countDown).psw = s.psw := rfl
@[simp] theorem State.countDown_mdWe : (s.countDown).mdWe = s.mdWe := rfl
@[simp] theorem State.countDown_nmiPending : (s.countDown).nmiPending = s.nmiPending := rfl
@[simp] theorem State.countDown_inhibitAll : (s.countDown).inhibitAll = s.inhibitAll := rfl
@[simp] theorem State.countDown_inhibitInt : (s.countDown).inhibitInt = s.inhibitInt := rfl
@[simp] theorem State.countDown_halted : (s.countDown).halted = s.halted := rfl
@[simp] theorem State.countDown_haltLock : (s.countDown).haltLock = s.haltLock := rfl
@[simp] theorem State.countDown_suspended : (s.countDown).suspended = s.suspended := rfl
@[simp] theorem State.countDown_pfx : (s.countDown).pfx = s.pfx := rfl
@[simp] theorem State.countDown_queue : (s.countDown).queue = s.queue := rfl
@[simp] theorem State.countDown_prefetchPlan : (s.countDown).prefetchPlan = s.prefetchPlan := rfl
@[simp] theorem State.countDown_queueBefore : (s.countDown).queueBefore = s.queueBefore := rfl
@[simp] theorem State.countDown_pins : (s.countDown).pins = s.pins := rfl
@[simp] theorem State.countDown_inputs : (s.countDown).inputs = s.inputs := rfl
@[simp] theorem State.countDown_ioIn : (s.countDown).ioIn = s.ioIn := rfl
@[simp] theorem State.countDown_ioCtr : (s.countDown).ioCtr = s.ioCtr := rfl
@[simp] theorem State.countDown_ioOut : (s.countDown).ioOut = s.ioOut := rfl
@[simp] theorem State.countDown_freeCtr : (s.countDown).freeCtr = s.freeCtr := rfl
@[simp] theorem State.countDown_mem : (s.countDown).mem = s.mem := rfl

/-! ### `set8080` -/

@[simp] theorem State.set8080_sp (r : Reg8080) (v : Byte) : (s.set8080 r v).sp = s.sp := by cases r <;> rfl
@[simp] theorem State.set8080_bp (r : Reg8080) (v : Byte) : (s.set8080 r v).bp = s.bp := by cases r <;> rfl
@[simp] theorem State.set8080_ix (r : Reg8080) (v : Byte) : (s.set8080 r v).ix = s.ix := by cases r <;> rfl
@[simp] theorem State.set8080_iy (r : Reg8080) (v : Byte) : (s.set8080 r v).iy = s.iy := by cases r <;> rfl
@[simp] theorem State.set8080_ps (r : Reg8080) (v : Byte) : (s.set8080 r v).ps = s.ps := by cases r <;> rfl
@[simp] theorem State.set8080_ss (r : Reg8080) (v : Byte) : (s.set8080 r v).ss = s.ss := by cases r <;> rfl
@[simp] theorem State.set8080_ds0 (r : Reg8080) (v : Byte) : (s.set8080 r v).ds0 = s.ds0 := by cases r <;> rfl
@[simp] theorem State.set8080_ds1 (r : Reg8080) (v : Byte) : (s.set8080 r v).ds1 = s.ds1 := by cases r <;> rfl
@[simp] theorem State.set8080_pc (r : Reg8080) (v : Byte) : (s.set8080 r v).pc = s.pc := by cases r <;> rfl
@[simp] theorem State.set8080_psw (r : Reg8080) (v : Byte) : (s.set8080 r v).psw = s.psw := by cases r <;> rfl
@[simp] theorem State.set8080_mdWe (r : Reg8080) (v : Byte) : (s.set8080 r v).mdWe = s.mdWe := by cases r <;> rfl
@[simp] theorem State.set8080_nmiPending (r : Reg8080) (v : Byte) :
    (s.set8080 r v).nmiPending = s.nmiPending := by cases r <;> rfl
@[simp] theorem State.set8080_inhibitAll (r : Reg8080) (v : Byte) :
    (s.set8080 r v).inhibitAll = s.inhibitAll := by cases r <;> rfl
@[simp] theorem State.set8080_inhibitInt (r : Reg8080) (v : Byte) :
    (s.set8080 r v).inhibitInt = s.inhibitInt := by cases r <;> rfl
@[simp] theorem State.set8080_halted (r : Reg8080) (v : Byte) : (s.set8080 r v).halted = s.halted := by cases r <;> rfl
@[simp] theorem State.set8080_haltLock (r : Reg8080) (v : Byte) :
    (s.set8080 r v).haltLock = s.haltLock := by cases r <;> rfl
@[simp] theorem State.set8080_suspended (r : Reg8080) (v : Byte) :
    (s.set8080 r v).suspended = s.suspended := by cases r <;> rfl
@[simp] theorem State.set8080_pfx (r : Reg8080) (v : Byte) : (s.set8080 r v).pfx = s.pfx := by cases r <;> rfl
@[simp] theorem State.set8080_queue (r : Reg8080) (v : Byte) : (s.set8080 r v).queue = s.queue := by cases r <;> rfl
@[simp] theorem State.set8080_prefetchPlan (r : Reg8080) (v : Byte) :
    (s.set8080 r v).prefetchPlan = s.prefetchPlan := by cases r <;> rfl
@[simp] theorem State.set8080_queueBefore (r : Reg8080) (v : Byte) :
    (s.set8080 r v).queueBefore = s.queueBefore := by cases r <;> rfl
@[simp] theorem State.set8080_pins (r : Reg8080) (v : Byte) : (s.set8080 r v).pins = s.pins := by cases r <;> rfl
@[simp] theorem State.set8080_inputs (r : Reg8080) (v : Byte) : (s.set8080 r v).inputs = s.inputs := by cases r <;> rfl
@[simp] theorem State.set8080_ioIn (r : Reg8080) (v : Byte) : (s.set8080 r v).ioIn = s.ioIn := by cases r <;> rfl
@[simp] theorem State.set8080_ioCtr (r : Reg8080) (v : Byte) : (s.set8080 r v).ioCtr = s.ioCtr := by cases r <;> rfl
@[simp] theorem State.set8080_ioOut (r : Reg8080) (v : Byte) : (s.set8080 r v).ioOut = s.ioOut := by cases r <;> rfl
@[simp] theorem State.set8080_freeCtr (r : Reg8080) (v : Byte) :
    (s.set8080 r v).freeCtr = s.freeCtr := by cases r <;> rfl
@[simp] theorem State.set8080_mem (r : Reg8080) (v : Byte) : (s.set8080 r v).mem = s.mem := by cases r <;> rfl

/-! ### `setSp8080` -/

@[simp] theorem State.setSp8080_aw (v : Word) : (s.setSp8080 v).aw = s.aw := rfl
@[simp] theorem State.setSp8080_bw (v : Word) : (s.setSp8080 v).bw = s.bw := rfl
@[simp] theorem State.setSp8080_cw (v : Word) : (s.setSp8080 v).cw = s.cw := rfl
@[simp] theorem State.setSp8080_dw (v : Word) : (s.setSp8080 v).dw = s.dw := rfl
@[simp] theorem State.setSp8080_sp (v : Word) : (s.setSp8080 v).sp = s.sp := rfl
@[simp] theorem State.setSp8080_bp (v : Word) : (s.setSp8080 v).bp = v := rfl
@[simp] theorem State.setSp8080_ix (v : Word) : (s.setSp8080 v).ix = s.ix := rfl
@[simp] theorem State.setSp8080_iy (v : Word) : (s.setSp8080 v).iy = s.iy := rfl
@[simp] theorem State.setSp8080_ps (v : Word) : (s.setSp8080 v).ps = s.ps := rfl
@[simp] theorem State.setSp8080_ss (v : Word) : (s.setSp8080 v).ss = s.ss := rfl
@[simp] theorem State.setSp8080_ds0 (v : Word) : (s.setSp8080 v).ds0 = s.ds0 := rfl
@[simp] theorem State.setSp8080_ds1 (v : Word) : (s.setSp8080 v).ds1 = s.ds1 := rfl
@[simp] theorem State.setSp8080_pc (v : Word) : (s.setSp8080 v).pc = s.pc := rfl
@[simp] theorem State.setSp8080_psw (v : Word) : (s.setSp8080 v).psw = s.psw := rfl
@[simp] theorem State.setSp8080_mdWe (v : Word) : (s.setSp8080 v).mdWe = s.mdWe := rfl
@[simp] theorem State.setSp8080_nmiPending (v : Word) : (s.setSp8080 v).nmiPending = s.nmiPending := rfl
@[simp] theorem State.setSp8080_inhibitAll (v : Word) : (s.setSp8080 v).inhibitAll = s.inhibitAll := rfl
@[simp] theorem State.setSp8080_inhibitInt (v : Word) : (s.setSp8080 v).inhibitInt = s.inhibitInt := rfl
@[simp] theorem State.setSp8080_halted (v : Word) : (s.setSp8080 v).halted = s.halted := rfl
@[simp] theorem State.setSp8080_haltLock (v : Word) : (s.setSp8080 v).haltLock = s.haltLock := rfl
@[simp] theorem State.setSp8080_suspended (v : Word) : (s.setSp8080 v).suspended = s.suspended := rfl
@[simp] theorem State.setSp8080_pfx (v : Word) : (s.setSp8080 v).pfx = s.pfx := rfl
@[simp] theorem State.setSp8080_queue (v : Word) : (s.setSp8080 v).queue = s.queue := rfl
@[simp] theorem State.setSp8080_prefetchPlan (v : Word) : (s.setSp8080 v).prefetchPlan = s.prefetchPlan := rfl
@[simp] theorem State.setSp8080_queueBefore (v : Word) : (s.setSp8080 v).queueBefore = s.queueBefore := rfl
@[simp] theorem State.setSp8080_pins (v : Word) : (s.setSp8080 v).pins = s.pins := rfl
@[simp] theorem State.setSp8080_inputs (v : Word) : (s.setSp8080 v).inputs = s.inputs := rfl
@[simp] theorem State.setSp8080_ioIn (v : Word) : (s.setSp8080 v).ioIn = s.ioIn := rfl
@[simp] theorem State.setSp8080_ioCtr (v : Word) : (s.setSp8080 v).ioCtr = s.ioCtr := rfl
@[simp] theorem State.setSp8080_ioOut (v : Word) : (s.setSp8080 v).ioOut = s.ioOut := rfl
@[simp] theorem State.setSp8080_freeCtr (v : Word) : (s.setSp8080 v).freeCtr = s.freeCtr := rfl
@[simp] theorem State.setSp8080_mem (v : Word) : (s.setSp8080 v).mem = s.mem := rfl

/-! ### `setFlags8080` -/

@[simp] theorem State.setFlags8080_aw (f : Byte) : (s.setFlags8080 f).aw = s.aw := rfl
@[simp] theorem State.setFlags8080_bw (f : Byte) : (s.setFlags8080 f).bw = s.bw := rfl
@[simp] theorem State.setFlags8080_cw (f : Byte) : (s.setFlags8080 f).cw = s.cw := rfl
@[simp] theorem State.setFlags8080_dw (f : Byte) : (s.setFlags8080 f).dw = s.dw := rfl
@[simp] theorem State.setFlags8080_sp (f : Byte) : (s.setFlags8080 f).sp = s.sp := rfl
@[simp] theorem State.setFlags8080_bp (f : Byte) : (s.setFlags8080 f).bp = s.bp := rfl
@[simp] theorem State.setFlags8080_ix (f : Byte) : (s.setFlags8080 f).ix = s.ix := rfl
@[simp] theorem State.setFlags8080_iy (f : Byte) : (s.setFlags8080 f).iy = s.iy := rfl
@[simp] theorem State.setFlags8080_ps (f : Byte) : (s.setFlags8080 f).ps = s.ps := rfl
@[simp] theorem State.setFlags8080_ss (f : Byte) : (s.setFlags8080 f).ss = s.ss := rfl
@[simp] theorem State.setFlags8080_ds0 (f : Byte) : (s.setFlags8080 f).ds0 = s.ds0 := rfl
@[simp] theorem State.setFlags8080_ds1 (f : Byte) : (s.setFlags8080 f).ds1 = s.ds1 := rfl
@[simp] theorem State.setFlags8080_pc (f : Byte) : (s.setFlags8080 f).pc = s.pc := rfl
@[simp] theorem State.setFlags8080_mdWe (f : Byte) : (s.setFlags8080 f).mdWe = s.mdWe := rfl
@[simp] theorem State.setFlags8080_nmiPending (f : Byte) : (s.setFlags8080 f).nmiPending = s.nmiPending := rfl
@[simp] theorem State.setFlags8080_inhibitAll (f : Byte) : (s.setFlags8080 f).inhibitAll = s.inhibitAll := rfl
@[simp] theorem State.setFlags8080_inhibitInt (f : Byte) : (s.setFlags8080 f).inhibitInt = s.inhibitInt := rfl
@[simp] theorem State.setFlags8080_halted (f : Byte) : (s.setFlags8080 f).halted = s.halted := rfl
@[simp] theorem State.setFlags8080_haltLock (f : Byte) : (s.setFlags8080 f).haltLock = s.haltLock := rfl
@[simp] theorem State.setFlags8080_suspended (f : Byte) : (s.setFlags8080 f).suspended = s.suspended := rfl
@[simp] theorem State.setFlags8080_pfx (f : Byte) : (s.setFlags8080 f).pfx = s.pfx := rfl
@[simp] theorem State.setFlags8080_queue (f : Byte) : (s.setFlags8080 f).queue = s.queue := rfl
@[simp] theorem State.setFlags8080_prefetchPlan (f : Byte) : (s.setFlags8080 f).prefetchPlan = s.prefetchPlan := rfl
@[simp] theorem State.setFlags8080_queueBefore (f : Byte) : (s.setFlags8080 f).queueBefore = s.queueBefore := rfl
@[simp] theorem State.setFlags8080_pins (f : Byte) : (s.setFlags8080 f).pins = s.pins := rfl
@[simp] theorem State.setFlags8080_inputs (f : Byte) : (s.setFlags8080 f).inputs = s.inputs := rfl
@[simp] theorem State.setFlags8080_ioIn (f : Byte) : (s.setFlags8080 f).ioIn = s.ioIn := rfl
@[simp] theorem State.setFlags8080_ioCtr (f : Byte) : (s.setFlags8080 f).ioCtr = s.ioCtr := rfl
@[simp] theorem State.setFlags8080_ioOut (f : Byte) : (s.setFlags8080 f).ioOut = s.ioOut := rfl
@[simp] theorem State.setFlags8080_freeCtr (f : Byte) : (s.setFlags8080 f).freeCtr = s.freeCtr := rfl
@[simp] theorem State.setFlags8080_mem (f : Byte) : (s.setFlags8080 f).mem = s.mem := rfl

/-! ### `write8080` -/

@[simp] theorem State.write8080_aw (a : Word) (v : Byte) : (s.write8080 a v).aw = s.aw := rfl
@[simp] theorem State.write8080_bw (a : Word) (v : Byte) : (s.write8080 a v).bw = s.bw := rfl
@[simp] theorem State.write8080_cw (a : Word) (v : Byte) : (s.write8080 a v).cw = s.cw := rfl
@[simp] theorem State.write8080_dw (a : Word) (v : Byte) : (s.write8080 a v).dw = s.dw := rfl
@[simp] theorem State.write8080_sp (a : Word) (v : Byte) : (s.write8080 a v).sp = s.sp := rfl
@[simp] theorem State.write8080_bp (a : Word) (v : Byte) : (s.write8080 a v).bp = s.bp := rfl
@[simp] theorem State.write8080_ix (a : Word) (v : Byte) : (s.write8080 a v).ix = s.ix := rfl
@[simp] theorem State.write8080_iy (a : Word) (v : Byte) : (s.write8080 a v).iy = s.iy := rfl
@[simp] theorem State.write8080_ps (a : Word) (v : Byte) : (s.write8080 a v).ps = s.ps := rfl
@[simp] theorem State.write8080_ss (a : Word) (v : Byte) : (s.write8080 a v).ss = s.ss := rfl
@[simp] theorem State.write8080_ds0 (a : Word) (v : Byte) : (s.write8080 a v).ds0 = s.ds0 := rfl
@[simp] theorem State.write8080_ds1 (a : Word) (v : Byte) : (s.write8080 a v).ds1 = s.ds1 := rfl
@[simp] theorem State.write8080_pc (a : Word) (v : Byte) : (s.write8080 a v).pc = s.pc := rfl
@[simp] theorem State.write8080_psw (a : Word) (v : Byte) : (s.write8080 a v).psw = s.psw := rfl
@[simp] theorem State.write8080_mdWe (a : Word) (v : Byte) : (s.write8080 a v).mdWe = s.mdWe := rfl
@[simp] theorem State.write8080_nmiPending (a : Word) (v : Byte) : (s.write8080 a v).nmiPending = s.nmiPending := rfl
@[simp] theorem State.write8080_inhibitAll (a : Word) (v : Byte) : (s.write8080 a v).inhibitAll = s.inhibitAll := rfl
@[simp] theorem State.write8080_inhibitInt (a : Word) (v : Byte) : (s.write8080 a v).inhibitInt = s.inhibitInt := rfl
@[simp] theorem State.write8080_halted (a : Word) (v : Byte) : (s.write8080 a v).halted = s.halted := rfl
@[simp] theorem State.write8080_haltLock (a : Word) (v : Byte) : (s.write8080 a v).haltLock = s.haltLock := rfl
@[simp] theorem State.write8080_suspended (a : Word) (v : Byte) : (s.write8080 a v).suspended = s.suspended := rfl
@[simp] theorem State.write8080_pfx (a : Word) (v : Byte) : (s.write8080 a v).pfx = s.pfx := rfl
@[simp] theorem State.write8080_queue (a : Word) (v : Byte) : (s.write8080 a v).queue = s.queue := rfl
@[simp] theorem State.write8080_prefetchPlan (a : Word) (v : Byte) :
    (s.write8080 a v).prefetchPlan = s.prefetchPlan := rfl
@[simp] theorem State.write8080_queueBefore (a : Word) (v : Byte) : (s.write8080 a v).queueBefore = s.queueBefore := rfl
@[simp] theorem State.write8080_pins (a : Word) (v : Byte) : (s.write8080 a v).pins = s.pins := rfl
@[simp] theorem State.write8080_inputs (a : Word) (v : Byte) : (s.write8080 a v).inputs = s.inputs := rfl
@[simp] theorem State.write8080_ioIn (a : Word) (v : Byte) : (s.write8080 a v).ioIn = s.ioIn := rfl
@[simp] theorem State.write8080_ioCtr (a : Word) (v : Byte) : (s.write8080 a v).ioCtr = s.ioCtr := rfl
@[simp] theorem State.write8080_ioOut (a : Word) (v : Byte) : (s.write8080 a v).ioOut = s.ioOut := rfl
@[simp] theorem State.write8080_freeCtr (a : Word) (v : Byte) : (s.write8080 a v).freeCtr = s.freeCtr := rfl
@[simp] theorem State.write8080_mem (a : Word) (v : Byte) :
    (s.write8080 a v).mem = Memory.write s.mem (s.phys8080 a).toNat v := rfl

/-! ### `withRegs8080` -/

@[simp] theorem State.withRegs8080_sp (t : State) : (s.withRegs8080 t).sp = s.sp := rfl
@[simp] theorem State.withRegs8080_bp (t : State) : (s.withRegs8080 t).bp = t.bp := rfl
@[simp] theorem State.withRegs8080_ix (t : State) : (s.withRegs8080 t).ix = s.ix := rfl
@[simp] theorem State.withRegs8080_iy (t : State) : (s.withRegs8080 t).iy = s.iy := rfl
@[simp] theorem State.withRegs8080_ps (t : State) : (s.withRegs8080 t).ps = s.ps := rfl
@[simp] theorem State.withRegs8080_ss (t : State) : (s.withRegs8080 t).ss = s.ss := rfl
@[simp] theorem State.withRegs8080_ds0 (t : State) : (s.withRegs8080 t).ds0 = s.ds0 := rfl
@[simp] theorem State.withRegs8080_ds1 (t : State) : (s.withRegs8080 t).ds1 = s.ds1 := rfl
@[simp] theorem State.withRegs8080_pc (t : State) : (s.withRegs8080 t).pc = s.pc := rfl
@[simp] theorem State.withRegs8080_mdWe (t : State) : (s.withRegs8080 t).mdWe = s.mdWe := rfl
@[simp] theorem State.withRegs8080_nmiPending (t : State) : (s.withRegs8080 t).nmiPending = s.nmiPending := rfl
@[simp] theorem State.withRegs8080_inhibitAll (t : State) : (s.withRegs8080 t).inhibitAll = s.inhibitAll := rfl
@[simp] theorem State.withRegs8080_inhibitInt (t : State) : (s.withRegs8080 t).inhibitInt = s.inhibitInt := rfl
@[simp] theorem State.withRegs8080_halted (t : State) : (s.withRegs8080 t).halted = s.halted := rfl
@[simp] theorem State.withRegs8080_haltLock (t : State) : (s.withRegs8080 t).haltLock = s.haltLock := rfl
@[simp] theorem State.withRegs8080_suspended (t : State) : (s.withRegs8080 t).suspended = s.suspended := rfl
@[simp] theorem State.withRegs8080_pfx (t : State) : (s.withRegs8080 t).pfx = s.pfx := rfl
@[simp] theorem State.withRegs8080_queue (t : State) : (s.withRegs8080 t).queue = s.queue := rfl
@[simp] theorem State.withRegs8080_prefetchPlan (t : State) : (s.withRegs8080 t).prefetchPlan = s.prefetchPlan := rfl
@[simp] theorem State.withRegs8080_queueBefore (t : State) : (s.withRegs8080 t).queueBefore = s.queueBefore := rfl
@[simp] theorem State.withRegs8080_pins (t : State) : (s.withRegs8080 t).pins = s.pins := rfl
@[simp] theorem State.withRegs8080_inputs (t : State) : (s.withRegs8080 t).inputs = s.inputs := rfl
@[simp] theorem State.withRegs8080_ioIn (t : State) : (s.withRegs8080 t).ioIn = s.ioIn := rfl
@[simp] theorem State.withRegs8080_ioCtr (t : State) : (s.withRegs8080 t).ioCtr = s.ioCtr := rfl
@[simp] theorem State.withRegs8080_ioOut (t : State) : (s.withRegs8080 t).ioOut = s.ioOut := rfl
@[simp] theorem State.withRegs8080_freeCtr (t : State) : (s.withRegs8080 t).freeCtr = s.freeCtr := rfl
@[simp] theorem State.withRegs8080_mem (t : State) : (s.withRegs8080 t).mem = s.mem := rfl

/-! ### `after8080` -/

@[simp] theorem State.after8080_sp (t : State) : (s.after8080 t).sp = s.sp := rfl
@[simp] theorem State.after8080_bp (t : State) : (s.after8080 t).bp = t.bp := rfl
@[simp] theorem State.after8080_ix (t : State) : (s.after8080 t).ix = s.ix := rfl
@[simp] theorem State.after8080_iy (t : State) : (s.after8080 t).iy = s.iy := rfl
@[simp] theorem State.after8080_ps (t : State) : (s.after8080 t).ps = s.ps := rfl
@[simp] theorem State.after8080_ss (t : State) : (s.after8080 t).ss = s.ss := rfl
@[simp] theorem State.after8080_ds0 (t : State) : (s.after8080 t).ds0 = s.ds0 := rfl
@[simp] theorem State.after8080_ds1 (t : State) : (s.after8080 t).ds1 = s.ds1 := rfl
@[simp] theorem State.after8080_pc (t : State) : (s.after8080 t).pc = t.pc := rfl
@[simp] theorem State.after8080_mdWe (t : State) : (s.after8080 t).mdWe = s.mdWe := rfl
@[simp] theorem State.after8080_nmiPending (t : State) : (s.after8080 t).nmiPending = s.nmiPending := rfl
@[simp] theorem State.after8080_inhibitAll (t : State) : (s.after8080 t).inhibitAll = false := rfl
@[simp] theorem State.after8080_inhibitInt (t : State) : (s.after8080 t).inhibitInt = false := rfl
@[simp] theorem State.after8080_halted (t : State) : (s.after8080 t).halted = t.halted := rfl
@[simp] theorem State.after8080_haltLock (t : State) : (s.after8080 t).haltLock = false := rfl
@[simp] theorem State.after8080_suspended (t : State) : (s.after8080 t).suspended = false := rfl
@[simp] theorem State.after8080_pfx (t : State) : (s.after8080 t).pfx = Prefixes.none := rfl
@[simp] theorem State.after8080_queue (t : State) : (s.after8080 t).queue = t.queue.take Config.queueBytes := rfl
@[simp] theorem State.after8080_prefetchPlan (t : State) : (s.after8080 t).prefetchPlan = t.prefetchPlan := rfl
@[simp] theorem State.after8080_queueBefore (t : State) : (s.after8080 t).queueBefore = s.queueBefore := rfl
@[simp] theorem State.after8080_pins (t : State) : (s.after8080 t).pins = s.pins := rfl
@[simp] theorem State.after8080_inputs (t : State) : (s.after8080 t).inputs = s.inputs := rfl
@[simp] theorem State.after8080_ioIn (t : State) : (s.after8080 t).ioIn = t.ioIn := rfl
@[simp] theorem State.after8080_ioCtr (t : State) : (s.after8080 t).ioCtr = t.ioCtr := rfl
@[simp] theorem State.after8080_ioOut (t : State) : (s.after8080 t).ioOut = t.ioOut := rfl
@[simp] theorem State.after8080_freeCtr (t : State) : (s.after8080 t).freeCtr = t.freeCtr := rfl
@[simp] theorem State.after8080_mem (t : State) :
    (s.after8080 t).mem = Memory.replaceIn s.reached8080 s.mem t.mem := rfl

end Sys2Proof.Machine
end

