-- ==== Sys2Proof/Laws/Ops.lean ====
section
/-! SUPPORT. For each shared operation over registers, memory, flags, stack and ports one lemma that says what it does,
in the words of Sys2Proof/Safety.lean. Proofs about instructions cite these and do not unfold the operations. -/

namespace Sys2Proof.Machine

/-! ## Registers -/

/-- A register written reads back. -/
@[simp] theorem State.getReg_setReg (s : State) (w : Width) (r : Reg) (v : BitVec w.bits) :
    (s.setReg w r v).getReg w r = v := by
  cases w <;> cases r <;>
    simp [State.setReg, State.getReg, State.setReg8, State.getReg8, State.setReg16, State.getReg16]

/-- A byte register written reads back. -/
@[simp] theorem State.getReg8_setReg8 (s : State) (r : Reg) (v : Byte) : (s.setReg8 r v).getReg8 r = v :=
  s.getReg_setReg .byte r v

/-- A word register written reads back. -/
@[simp] theorem State.getReg16_setReg16 (s : State) (r : Reg) (v : Word) : (s.setReg16 r v).getReg16 r = v :=
  s.getReg_setReg .word r v

/-- Another byte register keeps its value. -/
theorem State.getReg8_setReg8_other (s : State) {r x : Reg} (v : Byte) (h : x ≠ r) :
    (s.setReg8 r v).getReg8 x = s.getReg8 x := by
  cases r <;> cases x <;> simp_all [State.setReg8, State.getReg8]

/-- Another word register keeps its value. -/
theorem State.getReg16_setReg16_other (s : State) {r x : Reg} (v : Word) (h : x ≠ r) :
    (s.setReg16 r v).getReg16 x = s.getReg16 x := by
  cases r <;> cases x <;> simp_all [State.setReg16, State.getReg16]

/-- What a register write does: the other registers keep their values. -/
theorem State.setReg_others (s : State) (w : Width) (r : Reg) (v : BitVec w.bits) :
    OtherRegsKept w r s (s.setReg w r v) := by
  cases w
  · exact ⟨fun x hx => s.getReg8_setReg8_other v hx, by cases r <;> exact ⟨rfl, rfl, rfl, rfl⟩⟩
  · exact fun x hx => s.getReg16_setReg16_other v hx

/-- What a register write does: nothing but registers changes. -/
theorem State.setReg_only (s : State) (w : Width) (r : Reg) (v : BitVec w.bits) : OnlyRegs s (s.setReg w r v) := by
  cases w <;> cases r <;> rfl

/-- The three other segment registers keep their values. -/
theorem State.getSreg_setSreg (s : State) (sr x : Sreg) (v : Word) :
    (s.setSreg sr v).getSreg x = if x = sr then v else s.getSreg x := by
  cases sr <;> cases x <;> rfl

/-! ## Memory operands -/

/-- What a memory write does: nothing but memory changes. -/
theorem State.writeMem_only (s : State) (w : Width) (seg off : Word) (v : BitVec w.bits) :
    s.writeMem w seg off v = { s with mem := (s.writeMem w seg off v).mem } := by
  cases w <;> rfl

/-- What a memory write does: every byte outside the operand keeps its value. -/
theorem State.writeMem_outside (s : State) (w : Width) (seg off : Word) (v : BitVec w.bits) :
    MemKeptOutside w.bytes seg off s (s.writeMem w seg off v) :=
  fun _ ha => State.read_writeMem_other _ _ _ _ _ ha

/-- A read of a word whose two bytes lie outside the bytes that changed. -/
theorem MemKeptOutside.readWord {n : Nat} {seg off a : Word} {s t : State} (h : MemKeptOutside n seg off s t)
    (h0 : ∀ k, k < n → a ≠ off + BitVec.ofNat 16 k) (h1 : ∀ k, k < n → a + 1 ≠ off + BitVec.ofNat 16 k) :
    t.readWord seg a = s.readWord seg a := by
  have e : ∀ x y : Word, x ≠ y → (phys seg x).toNat ≠ (phys seg y).toNat := fun x y hxy hp => by
    have := congrArg (BitVec.ofNat 20) hp
    simp only [BitVec.ofNat_toNat, BitVec.setWidth_eq] at this
    have hx := congrArg BitVec.toNat this
    rw [phys_toNat, phys_toNat] at hx
    have := x.isLt
    have := y.isLt
    exact hxy (BitVec.eq_of_toNat_eq (by omega))
  simp only [State.readWord, State.readByte]
  rw [h _ fun k hk => e _ _ (h0 k hk), h _ fun k hk => e _ _ (h1 k hk)]

/-- A word write leaves every byte outside the two it stores. -/
theorem State.writeWord_outside (s : State) (seg off v : Word) : MemKeptOutside 2 seg off s (s.writeWord seg off v) :=
  s.writeMem_outside .word seg off v

/-- A read of memory depends on memory alone. -/
theorem State.readMem_congr {s t : State} (h : t.mem = s.mem) (w : Width) (seg off : Word) :
    t.readMem w seg off = s.readMem w seg off := by
  cases w <;> simp [State.readMem, State.readWord, State.readByte, h]

/-- A word read depends on memory alone. -/
theorem State.readWord_congr {s t : State} (h : t.mem = s.mem) (seg off : Word) :
    t.readWord seg off = s.readWord seg off := by
  simp [State.readWord, State.readByte, h]

/-- Offsets of one segment that differ are different addresses: a segment is smaller than the address space (R82,
R83). -/
theorem phys_inj {seg a b : Word} : phys seg a = phys seg b ↔ a = b := by
  constructor
  · intro h
    have := congrArg BitVec.toNat h
    rw [phys_toNat, phys_toNat] at this
    have ha := a.isLt
    have hb := b.isLt
    exact BitVec.eq_of_toNat_eq (by omega)
  · rintro rfl; rfl

/-! ## Flags -/

/-- What a change of flags does: nothing but the PSW and the count of free values changes. -/
theorem State.flags_only (s : State) (e : FlagEffect) :
    s.flags e = { s with psw := (s.flags e).psw, freeCtr := (s.flags e).freeCtr } := rfl

/-- What a change of flags does: the control flags keep their values. -/
theorem State.flags_control (s : State) (e : FlagEffect) : ControlKept s (s.flags e) := ⟨rfl, rfl, rfl, rfl⟩

/-- A read of memory after a change of flags. -/
@[simp] theorem State.readMem_flags (s : State) (e : FlagEffect) (w : Width) (seg off : Word) :
    (s.flags e).readMem w seg off = s.readMem w seg off := by
  cases w <;> rfl

/-- A register after a change of flags. -/
@[simp] theorem State.getReg_flags (s : State) (e : FlagEffect) (w : Width) (r : Reg) :
    (s.flags e).getReg w r = s.getReg w r := by
  cases w <;> cases r <;> rfl

/-! ## Closing lemmas for the shapes of Sys2Proof/Safety.lean -/

/-- An instruction that is one register write has the shape `LoadsReg`. -/
theorem LoadsReg.intro {i : Instr} {w : Width} {d : Reg} {v : State → BitVec w.bits}
    (h : ∀ s, exec i s = .next (s.setReg w d (v s))) : LoadsReg i w d v :=
  fun s => ⟨_, h s, s.getReg_setReg .., s.setReg_others .., s.setReg_only ..⟩

/-- An instruction that is one memory write has the shape `StoresMem`. -/
theorem StoresMem.intro {i : Instr} {w : Width} {seg off : State → Word} {v : State → BitVec w.bits}
    (h : ∀ s, exec i s = .next (s.writeMem w (seg s) (off s) (v s))) : StoresMem i w seg off v :=
  fun s hs => ⟨_, h s, State.readMem_writeMem hs .., s.writeMem_outside w _ _ _, s.writeMem_only ..⟩

/-- An instruction that is a register write and a change of flags has the shape `PutsReg`. -/
theorem PutsReg.intro {i : Instr} {w : Width} {d : Reg} {rel : State → BitVec w.bits → Psw → Prop}
    (v : State → BitVec w.bits) (e : State → FlagEffect) (h : ∀ s, exec i s = .next ((s.setReg w d (v s)).flags (e s)))
    (hr : ∀ s, rel s (v s) ((e s).apply s.psw s.free)) : PutsReg i w d rel := by
  intro s
  have hf : (s.setReg w d (v s)).free = s.free := by simp [State.free]
  refine ⟨_, h s, ?_, ?_, ?_, ?_⟩
  · simpa [hf] using hr s
  · cases w <;> exact s.setReg_others _ d (v s)
  · simp [ControlKept, FlagEffect.apply]
  · cases w <;> cases d <;> rfl

/-- An instruction that writes a register and no flag has the shape `PutsReg`. -/
theorem PutsReg.intro_noflags {i : Instr} {w : Width} {d : Reg} {rel : State → BitVec w.bits → Psw → Prop}
    (v : State → BitVec w.bits) (h : ∀ s, exec i s = .next (s.setReg w d (v s))) (hr : ∀ s, rel s (v s) s.psw) :
    PutsReg i w d rel := by
  intro s
  refine ⟨_, h s, ?_, s.setReg_others .., ?_, ?_⟩
  · simpa using hr s
  · simp [ControlKept]
  · cases w <;> cases d <;> rfl

/-- An instruction that is a write of its memory operand and a change of flags has the shape `PutsMem`. -/
theorem PutsMem.intro {i : Instr} {w : Width} {m : Mem} {rel : State → BitVec w.bits → Psw → Prop}
    (v : State → BitVec w.bits) (e : State → FlagEffect)
    (h : ∀ s, exec i s = .next ((s.writeOperand w m (v s)).flags (e s)))
    (hr : ∀ s, rel s (v s) ((e s).apply s.psw s.free)) : PutsMem i w m rel := by
  intro s hs
  have hf : (s.writeOperand w m (v s)).free = s.free := by simp [State.free]
  refine ⟨_, h s, ?_, ?_, ?_, ?_⟩
  · rw [State.readMem_flags, State.writeOperand, State.readMem_writeMem hs, ← State.writeOperand]
    simpa [hf] using hr s
  · exact s.writeMem_outside w (s.segOf m) (s.ea m) (v s)
  · simp [ControlKept, FlagEffect.apply]
  · cases w <;> rfl

/-- An instruction that writes its memory operand and no flag has the shape `PutsMem`. -/
theorem PutsMem.intro_noflags {i : Instr} {w : Width} {m : Mem} {rel : State → BitVec w.bits → Psw → Prop}
    (v : State → BitVec w.bits) (h : ∀ s, exec i s = .next (s.writeOperand w m (v s)))
    (hr : ∀ s, rel s (v s) s.psw) : PutsMem i w m rel := by
  intro s hs
  refine ⟨_, h s, ?_, ?_, ?_, ?_⟩
  · rw [State.writeOperand, State.readMem_writeMem hs, ← State.writeOperand]
    simpa using hr s
  · exact s.writeMem_outside w (s.segOf m) (s.ea m) (v s)
  · simp [ControlKept]
  · cases w <;> rfl

/-- An instruction that is a change of flags has the shape `PutsFlags`. -/
theorem PutsFlags.intro {i : Instr} {rel : State → Psw → Prop} (e : State → FlagEffect)
    (h : ∀ s, exec i s = .next (s.flags (e s))) (hr : ∀ s, rel s ((e s).apply s.psw s.free)) : PutsFlags i rel :=
  fun s => ⟨_, h s, hr s, s.flags_control _, rfl⟩

/-! ## Stack -/

/-- `Push16`: the word is below SP, and no other byte of memory has changed (R630). -/
theorem State.push_spec {s : State} (hs : Memory.wf s.mem = true) (v : Word) :
    (s.push v).sp = s.sp - 2 ∧ (s.push v).readWord s.ss (s.sp - 2) = v ∧
      MemKeptOutside 2 s.ss (s.sp - 2) s (s.push v) ∧ s.push v = { s with sp := (s.push v).sp, mem := (s.push v).mem } :=
  ⟨rfl, State.readWord_writeWord (s := { s with sp := s.sp - 2 }) hs _ _ _,
    State.writeWord_outside { s with sp := s.sp - 2 } _ _ _, rfl⟩

/-- Words pushed one after the other. -/
def State.pushAll (s : State) (vs : List Word) : State := vs.foldl State.push s

/-- Words pushed one after the other lie below SP, the first one highest, and no other byte of memory has changed (R630,
R632). -/
theorem State.pushAll_spec (vs : List Word) (s : State) (hs : Memory.wf s.mem = true) (hn : vs.length ≤ 1000) :
    (s.pushAll vs).sp = s.sp - BitVec.ofNat 16 (2 * vs.length) ∧
      (∀ i (hi : i < vs.length), (s.pushAll vs).readWord s.ss (s.sp - BitVec.ofNat 16 (2 * (i + 1))) = vs[i]) ∧
      MemKeptOutside (2 * vs.length) s.ss (s.sp - BitVec.ofNat 16 (2 * vs.length)) s (s.pushAll vs) ∧
      s.pushAll vs = { s with sp := (s.pushAll vs).sp, mem := (s.pushAll vs).mem } ∧
      Memory.wf (s.pushAll vs).mem = true := by
  induction vs generalizing s with
  | nil => exact ⟨by simp [State.pushAll], fun _ h => by simp at h, fun _ _ => rfl, rfl, hs⟩
  | cons v vs ih =>
    obtain ⟨p1, p2, p3, p4⟩ := State.push_spec hs v
    have hss : (s.push v).ss = s.ss := State.push_ss s v
    simp only [List.length_cons] at hn
    obtain ⟨i1, i2, i3, i4, i5⟩ := ih (s.push v) (State.push_wf hs v) (by omega)
    have hall : s.pushAll (v :: vs) = (s.push v).pushAll vs := rfl
    rw [hall]
    generalize (s.push v).pushAll vs = t at *
    rw [p1, hss] at i2 i3
    rw [p1] at i1
    refine ⟨?_, fun i hi => ?_, fun a ha => ?_, ?_, i5⟩
    · rw [i1, List.length_cons]; bv_omega
    · cases i with
      | zero =>
        rw [List.getElem_cons_zero, ← p2]
        exact i3.readWord (fun k hk => by bv_omega) fun k hk => by bv_omega
      | succ i =>
        rw [List.getElem_cons_succ, ← i2 i (by simpa using hi)]
        congr 1
        bv_omega
    · rw [i3, p3]
      · intro k hk
        have := ha (k + 2 * vs.length) (by simp only [List.length_cons]; omega)
        rwa [List.length_cons, show s.sp - BitVec.ofNat 16 (2 * (vs.length + 1)) +
          BitVec.ofNat 16 (k + 2 * vs.length) = s.sp - 2 + BitVec.ofNat 16 k by bv_omega] at this
      · intro k hk
        have := ha k (by simp only [List.length_cons]; omega)
        rwa [List.length_cons, show s.sp - BitVec.ofNat 16 (2 * (vs.length + 1)) + BitVec.ofNat 16 k =
          s.sp - 2 - BitVec.ofNat 16 (2 * vs.length) + BitVec.ofNat 16 k by bv_omega] at this
    · rw [i4, p4]

/-- An instruction that is one push has the shape `Pushes`. -/
theorem Pushes.intro {i : Instr} {v : State → Word} (h : ∀ s, exec i s = .next (s.push (v s))) : Pushes i v :=
  fun s hs => ⟨_, h s, State.push_spec hs (v s)⟩

/-! ## Ports -/

/-- A byte input: the next answer of the host, which is used up (R96). -/
theorem State.ioRead8_spec (s : State) (port : Word) :
    s.ioRead8 port = (s.portAnswer 0 port, { s with ioIn := s.ioIn.drop 1, ioCtr := s.ioCtr + 1 }) := by
  unfold State.ioRead8 State.portAnswer
  split <;> simp_all

/-- An input of either width (R96). -/
theorem State.ioRead_spec (s : State) (w : Width) (port : Word) :
    s.ioRead w port =
      (s.portOperand w port, { s with ioIn := s.ioIn.drop w.bytes, ioCtr := s.ioCtr + w.bytes }) := by
  cases w
  · exact s.ioRead8_spec port
  · simp only [State.ioRead, State.ioRead8_spec, State.portOperand, State.portAnswer, Width.bytes, List.drop_drop,
      List.getElem?_drop]

/-- An output of either width (R96). -/
theorem State.ioWrite_spec (s : State) (w : Width) (port : Word) (v : BitVec w.bits) :
    s.ioWrite w port v = { s with ioOut := portWrites w port v ++ s.ioOut } := by
  cases w <;> rfl

/-! ## Interrupts -/

/-- The image of the flags, read back, is the flags (R40). -/
@[simp] theorem Psw.ofImage_image (f : Psw) : Psw.ofImage f.image = f := by
  obtain ⟨md, v, dir, ie, brk, s, z, ac, p, cy⟩ := f
  cases md <;> cases v <;> cases dir <;> cases ie <;> cases brk <;> cases s <;> cases z <;> cases ac <;> cases p <;>
    cases cy <;> rfl

/-- The offset of a vector word: 4n as a 16-bit number (R741). -/
theorem vector_offset (n : Byte) (k : Nat) :
    (zext16 n * 4 + BitVec.ofNat 16 k : Word) = BitVec.ofNat 16 (4 * n.toNat + k) := by
  have := n.isLt
  apply BitVec.eq_of_toNat_eq
  simp [zext16, BitVec.toNat_mul]
  omega

/-- A frame: PSW image, PS and PC below SP (R750). -/
theorem State.pushFrame_spec {s : State} (hs : Memory.wf s.mem = true) : FramePushed s.psw.image s s.pushFrame := by
  obtain ⟨h1, h2, h3, -, -⟩ := State.pushAll_spec [s.psw.image, s.ps, s.pc] s hs (by simp)
  exact ⟨h1, h2 0 (by simp), h2 1 (by simp), h2 2 (by simp), h3⟩

/-- Control goes to the address in a vector (R741). -/
theorem State.enterVector_spec (s : State) (n : Byte) : AtVector n (s.enterVector n) := by
  have h0 := vector_offset n 0
  have h2 := vector_offset n 2
  simp only [Nat.add_zero] at h0
  refine ⟨?_, ?_, rfl⟩
  · rw [← h0]
    show s.readWord 0 (zext16 n * 4) = s.readWord 0 _
    congr 1
    bv_omega
  · rw [← h2]; rfl

/-- The frame of an interrupt changes SP and memory alone. -/
theorem State.pushFrame_only {s : State} (hs : Memory.wf s.mem = true) :
    s.pushFrame = { s with sp := s.pushFrame.sp, mem := s.pushFrame.mem } :=
  (State.pushAll_spec [s.psw.image, s.ps, s.pc] s hs (by simp)).2.2.2.1

/-- The entry of an interrupt (R750). -/
theorem State.interrupt_spec {s : State} (hs : Memory.wf s.mem = true) (n : Byte) : Interrupted n s (s.interrupt n) := by
  obtain ⟨h1, h2, h3, h4, h5⟩ := State.pushFrame_spec hs
  have hv := State.enterVector_spec s.pushFrame n
  have ho := State.pushFrame_only hs
  have hm := State.interrupt_mem s n
  have hr := State.readWord_congr hm
  refine ⟨⟨?_, ?_, ?_, ?_, ?_⟩, ⟨?_, ?_, ?_⟩, State.interrupt_psw s n, ?_⟩
  · rw [State.interrupt_sp]; bv_omega
  · rw [hr, h2]
  · rw [hr, h3]
  · rw [hr, h4]
  · intro a ha
    rw [hm, h5 a ha]
  · rw [State.interrupt_pc, hr]
    exact hv.1
  · rw [State.interrupt_ps, hr]
    exact hv.2.1
  · exact State.interrupt_queue s n
  · unfold State.interrupt
    generalize hp : s.pushFrame = p at *
    rw [ho]
    rfl

end Sys2Proof.Machine
end

