-- ==== Sys2Proof/Laws/Block.lean ====
section
/-! SUPPORT. What one element of a block instruction does, and what the repeat loop makes of elements (R240 to R248). -/

namespace Sys2Proof.Machine

/-- An element reads no repeat prefix, and leaves CW, PC, the inputs, the inhibit windows, the prefixes and the
prefetch plan alone. -/
structure IsElement (elem : State → State) : Prop where
  rep : ∀ (s : State) (r : Option Rep),
    elem { s with pfx := { s.pfx with rep := r } } = { elem s with pfx := { s.pfx with rep := r } }
  pfx : ∀ s, (elem s).pfx = s.pfx
  cw : ∀ s, (elem s).cw = s.cw
  pc : ∀ s, (elem s).pc = s.pc
  pins : ∀ s, (elem s).pins = s.pins
  nmiPending : ∀ s, (elem s).nmiPending = s.nmiPending
  ie : ∀ s, (elem s).psw.ie = s.psw.ie
  inhibitAll : ∀ s, (elem s).inhibitAll = s.inhibitAll
  inhibitInt : ∀ s, (elem s).inhibitInt = s.inhibitInt
  inputs : ∀ s, (elem s).inputs = s.inputs
  prefetchPlan : ∀ s, (elem s).prefetchPlan = s.prefetchPlan

theorem movbkElem_isElement (w : Width) : IsElement (movbkElem w) := by
  cases w <;> constructor <;> intros <;> rfl

theorem cmpbkElem_isElement (w : Width) : IsElement (cmpbkElem w) := by
  cases w <;> constructor <;> intros <;> rfl

theorem cmpmElem_isElement (w : Width) : IsElement (cmpmElem w) := by
  cases w <;> constructor <;> intros <;> rfl

theorem ldmElem_isElement (w : Width) : IsElement (ldmElem w) := by
  cases w <;> constructor <;> intros <;> rfl

theorem stmElem_isElement (w : Width) : IsElement (stmElem w) := by
  cases w <;> constructor <;> intros <;> rfl

/-- INM with its input written out. -/
theorem inmElem_spec (w : Width) (s : State) :
    inmElem w s =
      { { s with ioIn := s.ioIn.drop w.bytes, ioCtr := s.ioCtr + w.bytes }.writeMem w s.ds1 s.iy
          (s.portOperand w s.dw) with iy := s.iy + s.blockStep w } := by
  simp only [inmElem, State.ioRead_spec]

theorem inmElem_isElement (w : Width) : IsElement (inmElem w) := by
  cases w <;> constructor <;> intros <;> simp only [inmElem_spec] <;> rfl

theorem outmElem_isElement (w : Width) : IsElement (outmElem w) := by
  cases w <;> constructor <;> intros <;> rfl

/-- The instruction does the element without a repeat prefix, and the loop under one. -/
structure IsBlock (i : Instr) (elem : State → State) (compares : Bool) : Prop where
  element : IsElement elem
  exec : ∀ s, exec i s = .next (s.block elem compares)

/-- The block instructions that do not compare. -/
theorem isBlock_transfer {i : Instr} {w : Width} (h : i ∈ [.movbk w, .ldm w, .stm w, .inm w, .outm w]) :
    ∃ elem, IsBlock i elem false := by
  simp only [List.mem_cons, List.not_mem_nil, or_false] at h
  rcases h with rfl | rfl | rfl | rfl | rfl
  · exact ⟨_, movbkElem_isElement w, fun _ => rfl⟩
  · exact ⟨_, ldmElem_isElement w, fun _ => rfl⟩
  · exact ⟨_, stmElem_isElement w, fun _ => rfl⟩
  · exact ⟨_, inmElem_isElement w, fun _ => rfl⟩
  · exact ⟨_, outmElem_isElement w, fun _ => rfl⟩

/-- The block instructions that compare. -/
theorem isBlock_compare {i : Instr} {w : Width} (h : i ∈ [.cmpbk w, .cmpm w]) : ∃ elem, IsBlock i elem true := by
  simp only [List.mem_cons, List.not_mem_nil, or_false] at h
  rcases h with rfl | rfl
  · exact ⟨_, cmpbkElem_isElement w, fun _ => rfl⟩
  · exact ⟨_, cmpmElem_isElement w, fun _ => rfl⟩

/-- One element under a repeat prefix, in the words of Sys2Proof/Safety.lean. -/
theorem IsBlock.runsElements_succ {i : Instr} {elem : State → State} {c : Bool} (h : IsBlock i elem c) (n : Nat)
    (s t : State) : RunsElements i (n + 1) s t ↔ RunsElements i n (elem s).decCw t := by
  have hs : (elem s).decCw = { (elem s) with cw := (elem s).cw - 1, pfx := s.pfx } := by
    rw [← h.element.pfx s]; rfl
  have he : Machine.exec i { s with pfx := { s.pfx with rep := none } } =
      .next { elem s with pfx := { s.pfx with rep := none } } := by
    rw [h.exec]
    exact congrArg Host.Outcome.next (h.element.rep s none)
  constructor
  · rintro ⟨u, hu, ht⟩
    rw [he] at hu
    cases hu
    rw [hs]; exact ht
  · intro ht
    refine ⟨_, he, ?_⟩
    rw [hs] at ht; exact ht

/-- Nothing reaches the machine after an element if nothing did before. -/
theorem State.Undisturbed.element {elem : State → State} (h : IsElement elem) {s : State} (hs : s.Undisturbed) :
    (elem s).decCw.Undisturbed := by
  obtain ⟨h1, h2, h3, h4, h5⟩ := hs
  refine ⟨?_, ?_, ?_, ?_, ?_⟩
  · exact (congrArg Inputs.reset (h.pins s)).trans h1
  · exact (h.nmiPending s).trans h2
  · show ((elem s).pins.intLevel && (elem s).psw.ie && !(elem s).inhibitAll && !(elem s).inhibitInt) = false
    rw [h.pins, h.ie, h.inhibitAll, h.inhibitInt]; exact h3
  · exact (h.inputs s).trans h4
  · exact (h.prefetchPlan s).trans h5

/-- The machine between two elements that nothing disturbs goes on. -/
theorem State.Undisturbed.goesOn {s : State} (hs : s.Undisturbed) :
    s.prefetch.sample = s ∧ s.prefetch.sample.interrupted = false := by
  obtain ⟨h1, h2, h3, h4, h5⟩ := hs
  have h : s.prefetch.sample = s := by simp [State.prefetch, h5, State.sample, h4]
  rw [h]
  exact ⟨rfl, by simp [State.interrupted, h1, h2, h3]⟩

/-- The loop of an instruction that does not compare runs every element (R241). -/
theorem IsBlock.loop_transfer {i : Instr} {elem : State → State} (h : IsBlock i elem false) (r : Rep) (n : Nat)
    (s : State) (hs : s.Undisturbed) : RunsElements i n s (blockLoop elem r false n s) := by
  induction n generalizing s with
  | zero => rfl
  | succ n ih =>
    rw [h.runsElements_succ]
    have hu := hs.element h.element
    by_cases hn : n = 0
    · subst hn; rfl
    · obtain ⟨g1, g2⟩ := hu.goesOn
      have e : blockLoop elem r false (n + 1) s = blockLoop elem r false n (elem s).decCw := by
        rw [g1] at g2
        simp [blockLoop, hn, repStops, g1, g2]
      rw [e]
      exact ih _ hu

/-- The test after an element is the condition of the repeat prefix (R241). -/
theorem repStops_iff (r : Rep) (f : Psw) : repStops r true f = true ↔ RepeatEnds r f := by
  cases r <;> simp [repStops, RepeatEnds]

/-- The loop of an instruction that compares runs elements until the count ends or an element ends the loop (R241). -/
theorem IsBlock.loop_compare {i : Instr} {elem : State → State} (h : IsBlock i elem true) (r : Rep) (n : Nat)
    (s : State) (hs : s.Undisturbed) :
    ∃ k, RunsElements i k s (blockLoop elem r true n s) ∧ k ≤ n ∧
      (k < n → 0 < k ∧ RepeatEnds r (blockLoop elem r true n s).psw) ∧
      ∀ j u, 0 < j → j < k → RunsElements i j s u → ¬RepeatEnds r u.psw := by
  induction n generalizing s with
  | zero => exact ⟨0, rfl, le_refl _, fun h => absurd h (lt_irrefl _), fun j u _ h2 => absurd h2 (by omega)⟩
  | succ n ih =>
    have hu := hs.element h.element
    have one : RunsElements i 1 s (elem s).decCw := by rw [h.runsElements_succ]; rfl
    by_cases hr : RepeatEnds r (elem s).decCw.psw
    · have e : blockLoop elem r true (n + 1) s = (elem s).decCw := by
        have hb : repStops r true (elem s).psw = true := (repStops_iff r _).2 hr
        simp [blockLoop, hb]
      rw [e]
      exact ⟨1, one, by omega, fun _ => ⟨by omega, hr⟩, fun j u h1 h2 => absurd h2 (by omega)⟩
    · have hb : repStops r true (elem s).psw = false := by
        rw [← Bool.not_eq_true, repStops_iff]; exact hr
      by_cases hn : n = 0
      · subst hn
        have e : blockLoop elem r true 1 s = (elem s).decCw := by simp [blockLoop]
        rw [e]
        exact ⟨1, one, le_refl _, fun h => absurd h (lt_irrefl _), fun j u h1 h2 => absurd h2 (by omega)⟩
      · obtain ⟨g1, g2⟩ := hu.goesOn
        have e : blockLoop elem r true (n + 1) s = blockLoop elem r true n (elem s).decCw := by
          rw [g1] at g2
          simp [blockLoop, hn, hb, g1, g2]
        obtain ⟨k, k1, k2, k3, k4⟩ := ih _ hu
        rw [e]
        refine ⟨k + 1, by rw [h.runsElements_succ]; exact k1, by omega, fun hk => ⟨by omega, (k3 (by omega)).2⟩,
          fun j u h1 h2 hj => ?_⟩
        cases j with
        | zero => omega
        | succ j =>
          rw [h.runsElements_succ] at hj
          by_cases h0 : j = 0
          · subst h0; cases hj; exact hr
          · exact k4 j u (by omega) (by omega) hj

end Sys2Proof.Machine
end

