-- ==== Sys2Proof/Laws/Emulation.lean ====
section
/-! SUPPORT. What an 8080 instruction can do in the emulation mode: its registers, its memory, and that it reaches nothing
else (R723 to R725). -/

namespace Sys2Proof.Machine

/-! ## Memory replaced inside a set of addresses -/

/-- Entries taken out leave the canonical form. -/
theorem Memory.wfFrom_filter {lo : Nat} {m : List Host.Cell} (p : Host.Cell → Bool) (h : Memory.wfFrom lo m = true) :
    Memory.wfFrom lo (m.filter p) = true := by
  induction m generalizing lo with
  | nil => rfl
  | cons c rest ih =>
    obtain ⟨k, b⟩ := c
    simp only [Memory.wfFrom, Bool.and_eq_true, decide_eq_true_eq] at h
    obtain ⟨⟨⟨h1, h2⟩, h3⟩, h4⟩ := h
    by_cases hp : p (k, b) = true
    · simp only [List.filter_cons_of_pos hp, Memory.wfFrom, h1, h2, h3, ih h4, decide_true, Bool.and_self]
    · rw [List.filter_cons_of_neg hp]
      exact Memory.wfFrom_mono (ih h4) (by omega)

/-- Entries taken out read as unlisted ones, and all others as before. -/
theorem Memory.read_filter (m : List Host.Cell) (inside : Nat → Bool) (a : Nat) :
    Memory.read (m.filter fun c => !inside c.1) a = if inside a then Memory.unlisted else Memory.read m a := by
  induction m with
  | nil => simp [Memory.read]
  | cons c rest ih =>
    obtain ⟨k, b⟩ := c
    by_cases hk : inside k = true
    · by_cases ha : a = k
      · subst ha; simp [hk, ih]
      · simp [hk, ih, Memory.read, ha]
    · by_cases ha : a = k
      · subst ha; simp [hk, Memory.read]
      · simp [hk, ih, Memory.read, ha]

/-- The new memory inside the set and the old one outside, in canonical form: all that `Memory.replaceIn` does. -/
theorem Memory.replaceIn_spec {inside : Nat → Bool} {old : List Host.Cell} (h : Memory.wf old = true)
    (hi : ∀ a, inside a = true → a < 2 ^ 20) (new : List Host.Cell) :
    Memory.wf (Memory.replaceIn inside old new) = true ∧
      ∀ a, Memory.read (Memory.replaceIn inside old new) a =
        if inside a then Memory.read new a else Memory.read old a := by
  induction new with
  | nil => exact ⟨Memory.wfFrom_filter _ h, Memory.read_filter old inside⟩
  | cons c rest ih =>
    obtain ⟨k, b⟩ := c
    obtain ⟨hw, hr⟩ := ih
    have e : Memory.replaceIn inside old ((k, b) :: rest) =
        if inside k then Memory.write (Memory.replaceIn inside old rest) k b
        else Memory.replaceIn inside old rest := rfl
    by_cases hk : inside k = true
    · rw [e, if_pos hk]
      refine ⟨Memory.wfFrom_write hw (Nat.zero_le _) (hi k hk), fun a => ?_⟩
      by_cases ha : a = k
      · subst ha
        rw [Memory.read_write_same _ _ _ _ hw, if_pos hk, Memory.read, if_pos rfl]
      · rw [Memory.read_write_other _ _ _ _ ha, hr, Memory.read, if_neg ha]
    · rw [e, if_neg hk]
      refine ⟨hw, fun a => ?_⟩
      by_cases ha : a = k
      · subst ha; rw [hr, if_neg hk, if_neg hk]
      · rw [hr, Memory.read, if_neg ha]

/-! ## The 8080's memory -/

/-- The addresses reached are the physical addresses of the segment of DS0 (R725). -/
theorem State.reached8080_iff (s : State) (k : Nat) : s.reached8080 k = true ↔ ∃ a, k = (s.phys8080 a).toNat := by
  have hd := s.ds0.isLt
  simp only [State.reached8080, Bool.and_eq_true, decide_eq_true_eq, State.phys8080, phys_toNat]
  constructor
  · rintro ⟨h1, h2⟩
    refine ⟨BitVec.ofNat 16 ((k + 2 ^ 20 - s.ds0.toNat * 16) % 2 ^ 20), ?_⟩
    rw [BitVec.toNat_ofNat]
    omega
  · rintro ⟨a, rfl⟩
    have ha := a.isLt
    omega

/-- The memory after an 8080 instruction: canonical, what the instruction left in the segment of DS0, and as before
elsewhere. -/
theorem State.after8080_memory {s : State} (h : Memory.wf s.mem = true) (t : State) :
    Memory.wf (s.after8080 t).mem = true ∧
      (∀ a, (s.after8080 t).read8080 a = Memory.read t.mem (s.phys8080 a).toNat) ∧
      ∀ k, (∀ a, k ≠ (s.phys8080 a).toNat) → Memory.read (s.after8080 t).mem k = Memory.read s.mem k := by
  have hi : ∀ a, s.reached8080 a = true → a < 2 ^ 20 := fun a ha => by
    simp only [State.reached8080, Bool.and_eq_true, decide_eq_true_eq] at ha
    exact ha.1
  obtain ⟨hw, hr⟩ := Memory.replaceIn_spec h hi t.mem
  refine ⟨hw, fun a => ?_, fun k hk => ?_⟩
  · exact (hr _).trans (if_pos ((s.reached8080_iff _).2 ⟨a, rfl⟩))
  · refine (hr k).trans (if_neg fun hc => ?_)
    obtain ⟨a, ha⟩ := (s.reached8080_iff k).1 hc
    exact hk a ha

@[simp] theorem State.read8080_write8080 {s : State} (h : Memory.wf s.mem = true) (a : Word) (v : Byte) :
    (s.write8080 a v).read8080 a = v := by
  show Memory.read (s.writeByte s.ds0 a v).mem (phys s.ds0 a).toNat = v
  rw [State.read_writeByte h, if_pos rfl]

/-! ## The 8080's registers and flags -/

@[simp] theorem State.get8080_set8080 (s : State) (r : Reg8080) (v : Byte) : (s.set8080 r v).get8080 r = v :=
  State.getReg8_setReg8 s (native8080 r) v

theorem State.get8080_set8080_other (s : State) {r x : Reg8080} (v : Byte) (h : x ≠ r) :
    (s.set8080 r v).get8080 x = s.get8080 x :=
  State.getReg8_setReg8_other s v (by cases r <;> cases x <;> first | exact absurd rfl h | decide)

/-- The flag byte of one state written into another: five flags, and the high byte of the PSW stays (R724). -/
@[simp] theorem State.setFlags8080_psw_of (s t : State) :
    (s.setFlags8080 t.flags8080).psw =
      { s.psw with s := t.psw.s, z := t.psw.z, ac := t.psw.ac, p := t.psw.p, cy := t.psw.cy } := by
  have hb : ∀ k, k < 8 → t.flags8080.getLsbD k = t.psw.image.getLsbD k := fun k hk => by
    simp [State.flags8080, loByte, hk]
  have hf := Psw.ofImage_image t.psw
  have e : ∀ g : Psw → Bool, g (Psw.ofImage t.psw.image) = g t.psw := fun g => congrArg g hf
  simp only [State.setFlags8080, hb 7 (by decide), hb 6 (by decide), hb 4 (by decide), hb 2 (by decide),
    hb 0 (by decide)]
  exact Psw.mk.injEq .. ▸ ⟨rfl, rfl, rfl, rfl, rfl, e (·.s), e (·.z), e (·.ac), e (·.p), e (·.cy)⟩

/-- The registers after an 8080 instruction: AL, BW, CW, DW and BP are the instruction's, AH is as before (R723). -/
theorem State.after8080_regs (s t : State) :
    (s.after8080 t).aw = mkWord (hiByte s.aw) (loByte t.aw) ∧ (s.after8080 t).bw = t.bw ∧
      (s.after8080 t).cw = t.cw ∧ (s.after8080 t).dw = t.dw := by
  refine ⟨rfl, ?_, ?_, ?_⟩
  all_goals simp [State.after8080, State.withRegs8080, State.set8080, State.get8080, native8080, State.setReg8,
    State.getReg8, State.setSp8080, State.setFlags8080]

/-- The flags after an 8080 instruction: its five and IE, V and the other control flags as before (R724). -/
theorem State.after8080_psw (s t : State) :
    (s.after8080 t).psw =
      { s.psw with
        s := t.psw.s, z := t.psw.z, ac := t.psw.ac, p := t.psw.p, cy := t.psw.cy, ie := t.psw.ie } := by
  show { (State.setFlags8080 _ t.flags8080).psw with ie := t.psw.ie } = _
  rw [State.setFlags8080_psw_of]
  rfl

end Sys2Proof.Machine
end

