-- ==== Sys2Proof/Laws/Flags.lean ====
section
/-! SUPPORT. What the flag effects of sums, differences and logical results are, in the words of
Sys2Proof/Safety.lean. -/

namespace Sys2Proof.Machine

/-- S, Z and P computed by the functions of R17 are those of the result. -/
theorem SzpOf.intro {n : Nat} {r : BitVec n} {f : Psw} (hs : f.s = flagS r) (hz : f.z = flagZ r)
    (hp : f.p = flagP r) : SzpOf r f := by
  refine ⟨hs, ?_, ?_⟩
  · rw [hz, flagZ, Bool.eq_iff_iff]
    simp [BitVec.toNat_eq]
  · rw [hp]
    unfold flagP onesOfLowByte
    simp only [List.range, List.range.loop, List.filter]
    generalize r.getLsbD 0 = a
    generalize r.getLsbD 1 = b
    generalize r.getLsbD 2 = c
    generalize r.getLsbD 3 = d
    generalize r.getLsbD 4 = e
    generalize r.getLsbD 5 = g
    generalize r.getLsbD 6 = h
    generalize r.getLsbD 7 = k
    revert a b c d e g h k
    decide

/-- A carry as a number. -/
theorem carryIn_toNat {n : Nat} (c : Bool) (hn : 0 < n) : (carryIn c : BitVec n).toNat = c.toNat := by
  cases c
  · simp [carryIn]
  · show (1#n).toNat = 1
    rw [BitVec.toNat_ofNat]
    exact Nat.mod_eq_of_lt (Nat.one_lt_two_pow (by omega))

/-- `AddFlags`: the sum and its six flags (R18). -/
theorem addFlags_spec {n : Nat} (a b : BitVec n) (c : Bool) (f : Psw) (x : Word) (hn : 0 < n) :
    IsSum a b c (addResult a b c) ((addFlags a b c).apply f x) := by
  refine ⟨?_, ⟨SzpOf.intro rfl rfl rfl, rfl, ?_⟩, rfl⟩
  · simp [addResult, BitVec.toNat_add, carryIn_toNat c hn]
  · show vAdd a b _ = _
    unfold vAdd
    generalize (addResult a b c).msb = z
    generalize a.msb = x
    generalize b.msb = y
    revert x y z
    decide

/-- `SubFlags`: the six flags of a difference (R18). -/
theorem subFlags_spec {n : Nat} (a b : BitVec n) (c : Bool) (f : Psw) (x : Word) :
    DifferenceFlags a b c (subResult a b c) ((subFlags a b c).apply f x) := by
  refine ⟨⟨SzpOf.intro rfl rfl rfl, rfl, ?_⟩, rfl⟩
  show vSub a b _ = _
  unfold vSub
  generalize (subResult a b c).msb = z
  generalize a.msb = x
  generalize b.msb = y
  revert x y z
  decide

/-- `SubFlags`: the difference, with its six flags (R18). -/
theorem subResult_spec {n : Nat} (a b : BitVec n) (c : Bool) (f : Psw) (x : Word) (hn : 0 < n) :
    IsDifference a b c (subResult a b c) ((subFlags a b c).apply f x) := by
  refine ⟨?_, subFlags_spec ..⟩
  have hp : (2 : Int) ^ n = ((2 ^ n : Nat) : Int) := by norm_cast
  simp only [subResult, BitVec.toNat_sub, carryIn_toNat c hn]
  have ha := a.isLt
  have hb := b.isLt
  have hc : c.toNat ≤ 1 := by cases c <;> decide
  have h2 : 2 ≤ 2 ^ n := Nat.pow_le_pow_right (n := 2) (i := 1) (by decide) hn
  rw [hp]
  generalize 2 ^ n = N at *
  generalize c.toNat = C at *
  generalize a.toNat = A at *
  generalize b.toNat = B at *
  push_cast
  rw [Nat.cast_sub (by omega), Nat.cast_sub (by omega), Int.add_emod, Int.emod_emod_of_dvd _ (dvd_refl _),
    ← Int.add_emod, show ((N : Int) - C + (N - B + A)) = (A - B - C) + N * 2 by ring]
  simp

/-- `LogicFlags` (R18). -/
theorem logicFlags_spec {n : Nat} (r : BitVec n) (f : Psw) (x : Word) :
    LogicFlagsOf r ((logicFlags r).apply f x) :=
  ⟨rfl, rfl, SzpOf.intro rfl rfl rfl⟩

end Sys2Proof.Machine
end

