-- ==== Sys2Proof/Laws/PerInstr.lean ====
section
/-! SUPPORT. Statements made instruction by instruction. `Coded`: the encoding of an instruction has one to six bytes
(R131), so that the fetch window of a step holds it. One lemma per constructor of `Instr`. -/

namespace Sys2Proof.Laws

/-- The encoding has one to six bytes (R131). -/
def Coded.Statement (i : Instr) : Prop := 1 ≤ (encode i).length ∧ (encode i).length ≤ 6

/-- An operand byte for a register is one byte. -/
@[simp] theorem rmReg_length (mid : BitVec 3) (r : Reg) : (rmReg mid r).length = 1 := rfl

/-- A memory operand takes at most three bytes. -/
theorem rmMem_length (mid : BitVec 3) (m : Mem) : (rmMem mid m).length ≤ 3 := by
  cases m <;> simp [rmMem, rmBits, wordBytes]

/-- An immediate takes at most two bytes. -/
theorem immBytes_length (w : Width) (imm : Word) : (immBytes w imm).length ≤ 2 := by
  cases w <;> simp [immBytes, wordBytes]

/-- The immediate of the group 80H to 83H takes at most two bytes. -/
theorem swImmBytes_length (sw : SW) (imm : Word) : (sw.immBytes imm).length ≤ 2 := by
  cases sw <;> simp [SW.immBytes, wordBytes]

/-- A word is two bytes. -/
@[simp] theorem wordBytes_length (x : Word) : (wordBytes x).length = 2 := rfl

/-- An operand byte is one byte. -/
@[simp] theorem rmBits_length (a : BitVec 2) (b c : BitVec 3) : (rmBits a b c).length = 1 := rfl

/-- A first byte and what follows it. -/
theorem coded_bytes {i : Instr} {b : Byte} {t : List Byte} (h : encode i = b :: t) (ht : t.length ≤ 5) :
    Coded.Statement i := by
  unfold Coded.Statement
  rw [h, List.length_cons]
  omega

/-- A first byte and a memory operand. -/
theorem coded_mem {i : Instr} {b : Byte} {mid : BitVec 3} {m : Mem} (h : encode i = b :: rmMem mid m) :
    Coded.Statement i :=
  coded_bytes h (Nat.le_trans (rmMem_length mid m) (by decide))

/-- Two bytes and a memory operand. -/
theorem coded_mem2 {i : Instr} {b c : Byte} {mid : BitVec 3} {m : Mem} (h : encode i = b :: c :: rmMem mid m) :
    Coded.Statement i := by
  refine coded_bytes h ?_
  have := rmMem_length mid m
  rw [List.length_cons]
  omega

/-- A first byte, a memory operand and an immediate. -/
theorem coded_memImm {i : Instr} {b : Byte} {mid : BitVec 3} {m : Mem} {t : List Byte}
    (h : encode i = b :: (rmMem mid m ++ t)) (ht : t.length ≤ 2) : Coded.Statement i := by
  refine coded_bytes h ?_
  have := rmMem_length mid m
  rw [List.length_append]
  omega

/-- Two bytes, a memory operand and an immediate byte. -/
theorem coded_memImm2 {i : Instr} {b c x : Byte} {mid : BitVec 3} {m : Mem}
    (h : encode i = b :: c :: (rmMem mid m ++ [x])) : Coded.Statement i := by
  refine coded_bytes h ?_
  have := rmMem_length mid m
  rw [List.length_cons, List.length_append, List.length_singleton]
  omega

/-- A first byte, an operand byte for a register and an immediate. -/
theorem coded_regImm {i : Instr} {b : Byte} {mid : BitVec 3} {r : Reg} {t : List Byte}
    (h : encode i = b :: (rmReg mid r ++ t)) (ht : t.length ≤ 2) : Coded.Statement i := by
  refine coded_bytes h ?_
  rw [List.length_append, rmReg_length]
  omega

theorem Coded.movRegReg (w : Width) (d : Reg) (r : Reg) : Coded.Statement (.movRegReg w d r) :=
  coded_bytes rfl (Nat.le_of_ble_eq_true rfl)

theorem Coded.movMemReg (w : Width) (m : Mem) (r : Reg) : Coded.Statement (.movMemReg w m r) :=
  coded_mem rfl

theorem Coded.movRegMem (w : Width) (r : Reg) (m : Mem) : Coded.Statement (.movRegMem w r m) :=
  coded_mem rfl

theorem Coded.movMemImm (w : Width) (m : Mem) (imm : Word) : Coded.Statement (.movMemImm w m imm) :=
  coded_memImm rfl (immBytes_length w imm)

theorem Coded.movRegImm (w : Width) (r : Reg) (imm : Word) : Coded.Statement (.movRegImm w r imm) :=
  coded_bytes rfl (Nat.le_trans (immBytes_length w imm) (by decide))

theorem Coded.movAccDmem (w : Width) (addr : Word) : Coded.Statement (.movAccDmem w addr) :=
  coded_bytes rfl (Nat.le_of_ble_eq_true rfl)

theorem Coded.movDmemAcc (w : Width) (addr : Word) : Coded.Statement (.movDmemAcc w addr) :=
  coded_bytes rfl (Nat.le_of_ble_eq_true rfl)

theorem Coded.movSregReg16 (sr : Sreg) (r : Reg) : Coded.Statement (.movSregReg16 sr r) :=
  coded_bytes rfl (Nat.le_of_ble_eq_true rfl)

theorem Coded.movSregMem16 (sr : Sreg) (m : Mem) : Coded.Statement (.movSregMem16 sr m) :=
  coded_mem rfl

theorem Coded.movReg16Sreg (r : Reg) (sr : Sreg) : Coded.Statement (.movReg16Sreg r sr) :=
  coded_bytes rfl (Nat.le_of_ble_eq_true rfl)

theorem Coded.movMem16Sreg (m : Mem) (sr : Sreg) : Coded.Statement (.movMem16Sreg m sr) :=
  coded_mem rfl

theorem Coded.movDs0Reg16Mem32 (r : Reg) (m : Mem) : Coded.Statement (.movDs0Reg16Mem32 r m) :=
  coded_mem rfl

theorem Coded.movDs1Reg16Mem32 (r : Reg) (m : Mem) : Coded.Statement (.movDs1Reg16Mem32 r m) :=
  coded_mem rfl

theorem Coded.movAhPsw : Coded.Statement .movAhPsw :=
  coded_bytes rfl (Nat.le_of_ble_eq_true rfl)

theorem Coded.movPswAh : Coded.Statement .movPswAh :=
  coded_bytes rfl (Nat.le_of_ble_eq_true rfl)

theorem Coded.ldea (r : Reg) (m : Mem) : Coded.Statement (.ldea r m) :=
  coded_mem rfl

theorem Coded.trans : Coded.Statement .trans :=
  coded_bytes rfl (Nat.le_of_ble_eq_true rfl)

theorem Coded.xchRegReg (w : Width) (d : Reg) (r : Reg) : Coded.Statement (.xchRegReg w d r) :=
  coded_bytes rfl (Nat.le_of_ble_eq_true rfl)

theorem Coded.xchMemReg (w : Width) (m : Mem) (r : Reg) : Coded.Statement (.xchMemReg w m r) :=
  coded_mem rfl

theorem Coded.xchAwReg16 (r : Reg) : Coded.Statement (.xchAwReg16 r) :=
  coded_bytes rfl (Nat.le_of_ble_eq_true rfl)

theorem Coded.repc : Coded.Statement .repc :=
  coded_bytes rfl (Nat.le_of_ble_eq_true rfl)

theorem Coded.repnc : Coded.Statement .repnc :=
  coded_bytes rfl (Nat.le_of_ble_eq_true rfl)

theorem Coded.rep : Coded.Statement .rep :=
  coded_bytes rfl (Nat.le_of_ble_eq_true rfl)

theorem Coded.repne : Coded.Statement .repne :=
  coded_bytes rfl (Nat.le_of_ble_eq_true rfl)

theorem Coded.movbk (w : Width) : Coded.Statement (.movbk w) :=
  coded_bytes rfl (Nat.le_of_ble_eq_true rfl)

theorem Coded.cmpbk (w : Width) : Coded.Statement (.cmpbk w) :=
  coded_bytes rfl (Nat.le_of_ble_eq_true rfl)

theorem Coded.cmpm (w : Width) : Coded.Statement (.cmpm w) :=
  coded_bytes rfl (Nat.le_of_ble_eq_true rfl)

theorem Coded.ldm (w : Width) : Coded.Statement (.ldm w) :=
  coded_bytes rfl (Nat.le_of_ble_eq_true rfl)

theorem Coded.stm (w : Width) : Coded.Statement (.stm w) :=
  coded_bytes rfl (Nat.le_of_ble_eq_true rfl)

theorem Coded.insReg8Reg8 (r1 : Reg) (r2 : Reg) : Coded.Statement (.insReg8Reg8 r1 r2) :=
  coded_bytes rfl (Nat.le_of_ble_eq_true rfl)

theorem Coded.insReg8Imm4 (r : Reg) (i : Byte) : Coded.Statement (.insReg8Imm4 r i) :=
  coded_bytes rfl (Nat.le_of_ble_eq_true rfl)

theorem Coded.extReg8Reg8 (r1 : Reg) (r2 : Reg) : Coded.Statement (.extReg8Reg8 r1 r2) :=
  coded_bytes rfl (Nat.le_of_ble_eq_true rfl)

theorem Coded.extReg8Imm4 (r : Reg) (i : Byte) : Coded.Statement (.extReg8Imm4 r i) :=
  coded_bytes rfl (Nat.le_of_ble_eq_true rfl)

theorem Coded.inAccImm8 (w : Width) (port : Byte) : Coded.Statement (.inAccImm8 w port) :=
  coded_bytes rfl (Nat.le_of_ble_eq_true rfl)

theorem Coded.inAccDw (w : Width) : Coded.Statement (.inAccDw w) :=
  coded_bytes rfl (Nat.le_of_ble_eq_true rfl)

theorem Coded.outImm8Acc (w : Width) (port : Byte) : Coded.Statement (.outImm8Acc w port) :=
  coded_bytes rfl (Nat.le_of_ble_eq_true rfl)

theorem Coded.outDwAcc (w : Width) : Coded.Statement (.outDwAcc w) :=
  coded_bytes rfl (Nat.le_of_ble_eq_true rfl)

theorem Coded.inm (w : Width) : Coded.Statement (.inm w) :=
  coded_bytes rfl (Nat.le_of_ble_eq_true rfl)

theorem Coded.outm (w : Width) : Coded.Statement (.outm w) :=
  coded_bytes rfl (Nat.le_of_ble_eq_true rfl)

theorem Coded.addRegReg (w : Width) (d : Reg) (r : Reg) : Coded.Statement (.addRegReg w d r) :=
  coded_bytes rfl (Nat.le_of_ble_eq_true rfl)

theorem Coded.addMemReg (w : Width) (m : Mem) (r : Reg) : Coded.Statement (.addMemReg w m r) :=
  coded_mem rfl

theorem Coded.addRegMem (w : Width) (r : Reg) (m : Mem) : Coded.Statement (.addRegMem w r m) :=
  coded_mem rfl

theorem Coded.addRegImm (sw : SW) (r : Reg) (imm : Word) : Coded.Statement (.addRegImm sw r imm) :=
  coded_regImm rfl (swImmBytes_length sw imm)

theorem Coded.addMemImm (sw : SW) (m : Mem) (imm : Word) : Coded.Statement (.addMemImm sw m imm) :=
  coded_memImm rfl (swImmBytes_length sw imm)

theorem Coded.addAccImm (w : Width) (imm : Word) : Coded.Statement (.addAccImm w imm) :=
  coded_bytes rfl (Nat.le_trans (immBytes_length w imm) (by decide))

theorem Coded.addcRegReg (w : Width) (d : Reg) (r : Reg) : Coded.Statement (.addcRegReg w d r) :=
  coded_bytes rfl (Nat.le_of_ble_eq_true rfl)

theorem Coded.addcMemReg (w : Width) (m : Mem) (r : Reg) : Coded.Statement (.addcMemReg w m r) :=
  coded_mem rfl

theorem Coded.addcRegMem (w : Width) (r : Reg) (m : Mem) : Coded.Statement (.addcRegMem w r m) :=
  coded_mem rfl

theorem Coded.addcRegImm (sw : SW) (r : Reg) (imm : Word) : Coded.Statement (.addcRegImm sw r imm) :=
  coded_regImm rfl (swImmBytes_length sw imm)

theorem Coded.addcMemImm (sw : SW) (m : Mem) (imm : Word) : Coded.Statement (.addcMemImm sw m imm) :=
  coded_memImm rfl (swImmBytes_length sw imm)

theorem Coded.addcAccImm (w : Width) (imm : Word) : Coded.Statement (.addcAccImm w imm) :=
  coded_bytes rfl (Nat.le_trans (immBytes_length w imm) (by decide))

theorem Coded.subRegReg (w : Width) (d : Reg) (r : Reg) : Coded.Statement (.subRegReg w d r) :=
  coded_bytes rfl (Nat.le_of_ble_eq_true rfl)

theorem Coded.subMemReg (w : Width) (m : Mem) (r : Reg) : Coded.Statement (.subMemReg w m r) :=
  coded_mem rfl

theorem Coded.subRegMem (w : Width) (r : Reg) (m : Mem) : Coded.Statement (.subRegMem w r m) :=
  coded_mem rfl

theorem Coded.subRegImm (sw : SW) (r : Reg) (imm : Word) : Coded.Statement (.subRegImm sw r imm) :=
  coded_regImm rfl (swImmBytes_length sw imm)

theorem Coded.subMemImm (sw : SW) (m : Mem) (imm : Word) : Coded.Statement (.subMemImm sw m imm) :=
  coded_memImm rfl (swImmBytes_length sw imm)

theorem Coded.subAccImm (w : Width) (imm : Word) : Coded.Statement (.subAccImm w imm) :=
  coded_bytes rfl (Nat.le_trans (immBytes_length w imm) (by decide))

theorem Coded.subcRegReg (w : Width) (d : Reg) (r : Reg) : Coded.Statement (.subcRegReg w d r) :=
  coded_bytes rfl (Nat.le_of_ble_eq_true rfl)

theorem Coded.subcMemReg (w : Width) (m : Mem) (r : Reg) : Coded.Statement (.subcMemReg w m r) :=
  coded_mem rfl

theorem Coded.subcRegMem (w : Width) (r : Reg) (m : Mem) : Coded.Statement (.subcRegMem w r m) :=
  coded_mem rfl

theorem Coded.subcRegImm (sw : SW) (r : Reg) (imm : Word) : Coded.Statement (.subcRegImm sw r imm) :=
  coded_regImm rfl (swImmBytes_length sw imm)

theorem Coded.subcMemImm (sw : SW) (m : Mem) (imm : Word) : Coded.Statement (.subcMemImm sw m imm) :=
  coded_memImm rfl (swImmBytes_length sw imm)

theorem Coded.subcAccImm (w : Width) (imm : Word) : Coded.Statement (.subcAccImm w imm) :=
  coded_bytes rfl (Nat.le_trans (immBytes_length w imm) (by decide))

theorem Coded.add4s : Coded.Statement .add4s :=
  coded_bytes rfl (Nat.le_of_ble_eq_true rfl)

theorem Coded.sub4s : Coded.Statement .sub4s :=
  coded_bytes rfl (Nat.le_of_ble_eq_true rfl)

theorem Coded.cmp4s : Coded.Statement .cmp4s :=
  coded_bytes rfl (Nat.le_of_ble_eq_true rfl)

theorem Coded.rol4Reg8 (r : Reg) : Coded.Statement (.rol4Reg8 r) :=
  coded_bytes rfl (Nat.le_of_ble_eq_true rfl)

theorem Coded.rol4Mem8 (m : Mem) : Coded.Statement (.rol4Mem8 m) :=
  coded_mem2 rfl

theorem Coded.ror4Reg8 (r : Reg) : Coded.Statement (.ror4Reg8 r) :=
  coded_bytes rfl (Nat.le_of_ble_eq_true rfl)

theorem Coded.ror4Mem8 (m : Mem) : Coded.Statement (.ror4Mem8 m) :=
  coded_mem2 rfl

theorem Coded.incReg8 (r : Reg) : Coded.Statement (.incReg8 r) :=
  coded_bytes rfl (Nat.le_of_ble_eq_true rfl)

theorem Coded.incMem (w : Width) (m : Mem) : Coded.Statement (.incMem w m) :=
  coded_mem rfl

theorem Coded.incReg16 (r : Reg) : Coded.Statement (.incReg16 r) :=
  coded_bytes rfl (Nat.le_of_ble_eq_true rfl)

theorem Coded.decReg8 (r : Reg) : Coded.Statement (.decReg8 r) :=
  coded_bytes rfl (Nat.le_of_ble_eq_true rfl)

theorem Coded.decMem (w : Width) (m : Mem) : Coded.Statement (.decMem w m) :=
  coded_mem rfl

theorem Coded.decReg16 (r : Reg) : Coded.Statement (.decReg16 r) :=
  coded_bytes rfl (Nat.le_of_ble_eq_true rfl)

theorem Coded.muluReg8 (r : Reg) : Coded.Statement (.muluReg8 r) :=
  coded_bytes rfl (Nat.le_of_ble_eq_true rfl)

theorem Coded.muluMem8 (m : Mem) : Coded.Statement (.muluMem8 m) :=
  coded_mem rfl

theorem Coded.muluReg16 (r : Reg) : Coded.Statement (.muluReg16 r) :=
  coded_bytes rfl (Nat.le_of_ble_eq_true rfl)

theorem Coded.muluMem16 (m : Mem) : Coded.Statement (.muluMem16 m) :=
  coded_mem rfl

theorem Coded.mulReg8 (r : Reg) : Coded.Statement (.mulReg8 r) :=
  coded_bytes rfl (Nat.le_of_ble_eq_true rfl)

theorem Coded.mulMem8 (m : Mem) : Coded.Statement (.mulMem8 m) :=
  coded_mem rfl

theorem Coded.mulReg16 (r : Reg) : Coded.Statement (.mulReg16 r) :=
  coded_bytes rfl (Nat.le_of_ble_eq_true rfl)

theorem Coded.mulMem16 (m : Mem) : Coded.Statement (.mulMem16 m) :=
  coded_mem rfl

theorem Coded.mulReg16Reg16Imm8 (d : Reg) (r : Reg) (i : Byte) : Coded.Statement (.mulReg16Reg16Imm8 d r i) :=
  coded_bytes rfl (Nat.le_of_ble_eq_true rfl)

theorem Coded.mulReg16Mem16Imm8 (d : Reg) (m : Mem) (i : Byte) : Coded.Statement (.mulReg16Mem16Imm8 d m i) :=
  coded_memImm rfl (Nat.le_of_ble_eq_true rfl)

theorem Coded.mulReg16Reg16Imm16 (d : Reg) (r : Reg) (imm : Word) : Coded.Statement (.mulReg16Reg16Imm16 d r imm) :=
  coded_bytes rfl (Nat.le_of_ble_eq_true rfl)

theorem Coded.mulReg16Mem16Imm16 (d : Reg) (m : Mem) (imm : Word) : Coded.Statement (.mulReg16Mem16Imm16 d m imm) :=
  coded_memImm rfl (Nat.le_of_ble_eq_true rfl)

theorem Coded.divuReg8 (r : Reg) : Coded.Statement (.divuReg8 r) :=
  coded_bytes rfl (Nat.le_of_ble_eq_true rfl)

theorem Coded.divuMem8 (m : Mem) : Coded.Statement (.divuMem8 m) :=
  coded_mem rfl

theorem Coded.divuReg16 (r : Reg) : Coded.Statement (.divuReg16 r) :=
  coded_bytes rfl (Nat.le_of_ble_eq_true rfl)

theorem Coded.divuMem16 (m : Mem) : Coded.Statement (.divuMem16 m) :=
  coded_mem rfl

theorem Coded.divReg8 (r : Reg) : Coded.Statement (.divReg8 r) :=
  coded_bytes rfl (Nat.le_of_ble_eq_true rfl)

theorem Coded.divMem8 (m : Mem) : Coded.Statement (.divMem8 m) :=
  coded_mem rfl

theorem Coded.divReg16 (r : Reg) : Coded.Statement (.divReg16 r) :=
  coded_bytes rfl (Nat.le_of_ble_eq_true rfl)

theorem Coded.divMem16 (m : Mem) : Coded.Statement (.divMem16 m) :=
  coded_mem rfl

theorem Coded.adjba : Coded.Statement .adjba :=
  coded_bytes rfl (Nat.le_of_ble_eq_true rfl)

theorem Coded.adj4a : Coded.Statement .adj4a :=
  coded_bytes rfl (Nat.le_of_ble_eq_true rfl)

theorem Coded.adjbs : Coded.Statement .adjbs :=
  coded_bytes rfl (Nat.le_of_ble_eq_true rfl)

theorem Coded.adj4s : Coded.Statement .adj4s :=
  coded_bytes rfl (Nat.le_of_ble_eq_true rfl)

theorem Coded.cvtbd : Coded.Statement .cvtbd :=
  coded_bytes rfl (Nat.le_of_ble_eq_true rfl)

theorem Coded.cvtdb : Coded.Statement .cvtdb :=
  coded_bytes rfl (Nat.le_of_ble_eq_true rfl)

theorem Coded.cvtbw : Coded.Statement .cvtbw :=
  coded_bytes rfl (Nat.le_of_ble_eq_true rfl)

theorem Coded.cvtwl : Coded.Statement .cvtwl :=
  coded_bytes rfl (Nat.le_of_ble_eq_true rfl)

theorem Coded.cmpRegReg (w : Width) (d : Reg) (r : Reg) : Coded.Statement (.cmpRegReg w d r) :=
  coded_bytes rfl (Nat.le_of_ble_eq_true rfl)

theorem Coded.cmpMemReg (w : Width) (m : Mem) (r : Reg) : Coded.Statement (.cmpMemReg w m r) :=
  coded_mem rfl

theorem Coded.cmpRegMem (w : Width) (r : Reg) (m : Mem) : Coded.Statement (.cmpRegMem w r m) :=
  coded_mem rfl

theorem Coded.cmpRegImm (sw : SW) (r : Reg) (imm : Word) : Coded.Statement (.cmpRegImm sw r imm) :=
  coded_regImm rfl (swImmBytes_length sw imm)

theorem Coded.cmpMemImm (sw : SW) (m : Mem) (imm : Word) : Coded.Statement (.cmpMemImm sw m imm) :=
  coded_memImm rfl (swImmBytes_length sw imm)

theorem Coded.cmpAccImm (w : Width) (imm : Word) : Coded.Statement (.cmpAccImm w imm) :=
  coded_bytes rfl (Nat.le_trans (immBytes_length w imm) (by decide))

theorem Coded.notReg (w : Width) (r : Reg) : Coded.Statement (.notReg w r) :=
  coded_bytes rfl (Nat.le_of_ble_eq_true rfl)

theorem Coded.notMem (w : Width) (m : Mem) : Coded.Statement (.notMem w m) :=
  coded_mem rfl

theorem Coded.negReg (w : Width) (r : Reg) : Coded.Statement (.negReg w r) :=
  coded_bytes rfl (Nat.le_of_ble_eq_true rfl)

theorem Coded.negMem (w : Width) (m : Mem) : Coded.Statement (.negMem w m) :=
  coded_mem rfl

theorem Coded.testRegReg (w : Width) (d : Reg) (r : Reg) : Coded.Statement (.testRegReg w d r) :=
  coded_bytes rfl (Nat.le_of_ble_eq_true rfl)

theorem Coded.testMemReg (w : Width) (m : Mem) (r : Reg) : Coded.Statement (.testMemReg w m r) :=
  coded_mem rfl

theorem Coded.testRegImm (w : Width) (r : Reg) (imm : Word) : Coded.Statement (.testRegImm w r imm) :=
  coded_regImm rfl (immBytes_length w imm)

theorem Coded.testMemImm (w : Width) (m : Mem) (imm : Word) : Coded.Statement (.testMemImm w m imm) :=
  coded_memImm rfl (immBytes_length w imm)

theorem Coded.testAccImm (w : Width) (imm : Word) : Coded.Statement (.testAccImm w imm) :=
  coded_bytes rfl (Nat.le_trans (immBytes_length w imm) (by decide))

theorem Coded.andRegReg (w : Width) (d : Reg) (r : Reg) : Coded.Statement (.andRegReg w d r) :=
  coded_bytes rfl (Nat.le_of_ble_eq_true rfl)

theorem Coded.andMemReg (w : Width) (m : Mem) (r : Reg) : Coded.Statement (.andMemReg w m r) :=
  coded_mem rfl

theorem Coded.andRegMem (w : Width) (r : Reg) (m : Mem) : Coded.Statement (.andRegMem w r m) :=
  coded_mem rfl

theorem Coded.andRegImm (w : Width) (r : Reg) (imm : Word) : Coded.Statement (.andRegImm w r imm) :=
  coded_regImm rfl (immBytes_length w imm)

theorem Coded.andMemImm (w : Width) (m : Mem) (imm : Word) : Coded.Statement (.andMemImm w m imm) :=
  coded_memImm rfl (immBytes_length w imm)

theorem Coded.andAccImm (w : Width) (imm : Word) : Coded.Statement (.andAccImm w imm) :=
  coded_bytes rfl (Nat.le_trans (immBytes_length w imm) (by decide))

theorem Coded.orRegReg (w : Width) (d : Reg) (r : Reg) : Coded.Statement (.orRegReg w d r) :=
  coded_bytes rfl (Nat.le_of_ble_eq_true rfl)

theorem Coded.orMemReg (w : Width) (m : Mem) (r : Reg) : Coded.Statement (.orMemReg w m r) :=
  coded_mem rfl

theorem Coded.orRegMem (w : Width) (r : Reg) (m : Mem) : Coded.Statement (.orRegMem w r m) :=
  coded_mem rfl

theorem Coded.orRegImm (w : Width) (r : Reg) (imm : Word) : Coded.Statement (.orRegImm w r imm) :=
  coded_regImm rfl (immBytes_length w imm)

theorem Coded.orMemImm (w : Width) (m : Mem) (imm : Word) : Coded.Statement (.orMemImm w m imm) :=
  coded_memImm rfl (immBytes_length w imm)

theorem Coded.orAccImm (w : Width) (imm : Word) : Coded.Statement (.orAccImm w imm) :=
  coded_bytes rfl (Nat.le_trans (immBytes_length w imm) (by decide))

theorem Coded.xorRegReg (w : Width) (d : Reg) (r : Reg) : Coded.Statement (.xorRegReg w d r) :=
  coded_bytes rfl (Nat.le_of_ble_eq_true rfl)

theorem Coded.xorMemReg (w : Width) (m : Mem) (r : Reg) : Coded.Statement (.xorMemReg w m r) :=
  coded_mem rfl

theorem Coded.xorRegMem (w : Width) (r : Reg) (m : Mem) : Coded.Statement (.xorRegMem w r m) :=
  coded_mem rfl

theorem Coded.xorRegImm (w : Width) (r : Reg) (imm : Word) : Coded.Statement (.xorRegImm w r imm) :=
  coded_regImm rfl (immBytes_length w imm)

theorem Coded.xorMemImm (w : Width) (m : Mem) (imm : Word) : Coded.Statement (.xorMemImm w m imm) :=
  coded_memImm rfl (immBytes_length w imm)

theorem Coded.xorAccImm (w : Width) (imm : Word) : Coded.Statement (.xorAccImm w imm) :=
  coded_bytes rfl (Nat.le_trans (immBytes_length w imm) (by decide))

theorem Coded.test1Reg8Cl (r : Reg) : Coded.Statement (.test1Reg8Cl r) :=
  coded_bytes rfl (Nat.le_of_ble_eq_true rfl)

theorem Coded.test1Mem8Cl (m : Mem) : Coded.Statement (.test1Mem8Cl m) :=
  coded_mem2 rfl

theorem Coded.test1Reg16Cl (r : Reg) : Coded.Statement (.test1Reg16Cl r) :=
  coded_bytes rfl (Nat.le_of_ble_eq_true rfl)

theorem Coded.test1Mem16Cl (m : Mem) : Coded.Statement (.test1Mem16Cl m) :=
  coded_mem2 rfl

theorem Coded.test1Reg8Imm (r : Reg) (i : Byte) : Coded.Statement (.test1Reg8Imm r i) :=
  coded_bytes rfl (Nat.le_of_ble_eq_true rfl)

theorem Coded.test1Mem8Imm (m : Mem) (i : Byte) : Coded.Statement (.test1Mem8Imm m i) :=
  coded_memImm2 rfl

theorem Coded.test1Reg16Imm (r : Reg) (i : Byte) : Coded.Statement (.test1Reg16Imm r i) :=
  coded_bytes rfl (Nat.le_of_ble_eq_true rfl)

theorem Coded.test1Mem16Imm (m : Mem) (i : Byte) : Coded.Statement (.test1Mem16Imm m i) :=
  coded_memImm2 rfl

theorem Coded.not1Reg8Cl (r : Reg) : Coded.Statement (.not1Reg8Cl r) :=
  coded_bytes rfl (Nat.le_of_ble_eq_true rfl)

theorem Coded.not1Mem8Cl (m : Mem) : Coded.Statement (.not1Mem8Cl m) :=
  coded_mem2 rfl

theorem Coded.not1Reg16Cl (r : Reg) : Coded.Statement (.not1Reg16Cl r) :=
  coded_bytes rfl (Nat.le_of_ble_eq_true rfl)

theorem Coded.not1Mem16Cl (m : Mem) : Coded.Statement (.not1Mem16Cl m) :=
  coded_mem2 rfl

theorem Coded.not1Reg8Imm (r : Reg) (i : Byte) : Coded.Statement (.not1Reg8Imm r i) :=
  coded_bytes rfl (Nat.le_of_ble_eq_true rfl)

theorem Coded.not1Mem8Imm (m : Mem) (i : Byte) : Coded.Statement (.not1Mem8Imm m i) :=
  coded_memImm2 rfl

theorem Coded.not1Reg16Imm (r : Reg) (i : Byte) : Coded.Statement (.not1Reg16Imm r i) :=
  coded_bytes rfl (Nat.le_of_ble_eq_true rfl)

theorem Coded.not1Mem16Imm (m : Mem) (i : Byte) : Coded.Statement (.not1Mem16Imm m i) :=
  coded_memImm2 rfl

theorem Coded.not1Cy : Coded.Statement .not1Cy :=
  coded_bytes rfl (Nat.le_of_ble_eq_true rfl)

theorem Coded.clr1Reg8Cl (r : Reg) : Coded.Statement (.clr1Reg8Cl r) :=
  coded_bytes rfl (Nat.le_of_ble_eq_true rfl)

theorem Coded.clr1Mem8Cl (m : Mem) : Coded.Statement (.clr1Mem8Cl m) :=
  coded_mem2 rfl

theorem Coded.clr1Reg16Cl (r : Reg) : Coded.Statement (.clr1Reg16Cl r) :=
  coded_bytes rfl (Nat.le_of_ble_eq_true rfl)

theorem Coded.clr1Mem16Cl (m : Mem) : Coded.Statement (.clr1Mem16Cl m) :=
  coded_mem2 rfl

theorem Coded.clr1Reg8Imm (r : Reg) (i : Byte) : Coded.Statement (.clr1Reg8Imm r i) :=
  coded_bytes rfl (Nat.le_of_ble_eq_true rfl)

theorem Coded.clr1Mem8Imm (m : Mem) (i : Byte) : Coded.Statement (.clr1Mem8Imm m i) :=
  coded_memImm2 rfl

theorem Coded.clr1Reg16Imm (r : Reg) (i : Byte) : Coded.Statement (.clr1Reg16Imm r i) :=
  coded_bytes rfl (Nat.le_of_ble_eq_true rfl)

theorem Coded.clr1Mem16Imm (m : Mem) (i : Byte) : Coded.Statement (.clr1Mem16Imm m i) :=
  coded_memImm2 rfl

theorem Coded.clr1Cy : Coded.Statement .clr1Cy :=
  coded_bytes rfl (Nat.le_of_ble_eq_true rfl)

theorem Coded.clr1Dir : Coded.Statement .clr1Dir :=
  coded_bytes rfl (Nat.le_of_ble_eq_true rfl)

theorem Coded.set1Reg8Cl (r : Reg) : Coded.Statement (.set1Reg8Cl r) :=
  coded_bytes rfl (Nat.le_of_ble_eq_true rfl)

theorem Coded.set1Mem8Cl (m : Mem) : Coded.Statement (.set1Mem8Cl m) :=
  coded_mem2 rfl

theorem Coded.set1Reg16Cl (r : Reg) : Coded.Statement (.set1Reg16Cl r) :=
  coded_bytes rfl (Nat.le_of_ble_eq_true rfl)

theorem Coded.set1Mem16Cl (m : Mem) : Coded.Statement (.set1Mem16Cl m) :=
  coded_mem2 rfl

theorem Coded.set1Reg8Imm (r : Reg) (i : Byte) : Coded.Statement (.set1Reg8Imm r i) :=
  coded_bytes rfl (Nat.le_of_ble_eq_true rfl)

theorem Coded.set1Mem8Imm (m : Mem) (i : Byte) : Coded.Statement (.set1Mem8Imm m i) :=
  coded_memImm2 rfl

theorem Coded.set1Reg16Imm (r : Reg) (i : Byte) : Coded.Statement (.set1Reg16Imm r i) :=
  coded_bytes rfl (Nat.le_of_ble_eq_true rfl)

theorem Coded.set1Mem16Imm (m : Mem) (i : Byte) : Coded.Statement (.set1Mem16Imm m i) :=
  coded_memImm2 rfl

theorem Coded.set1Cy : Coded.Statement .set1Cy :=
  coded_bytes rfl (Nat.le_of_ble_eq_true rfl)

theorem Coded.set1Dir : Coded.Statement .set1Dir :=
  coded_bytes rfl (Nat.le_of_ble_eq_true rfl)

theorem Coded.shlReg1 (w : Width) (r : Reg) : Coded.Statement (.shlReg1 w r) :=
  coded_bytes rfl (Nat.le_of_ble_eq_true rfl)

theorem Coded.shlMem1 (w : Width) (m : Mem) : Coded.Statement (.shlMem1 w m) :=
  coded_mem rfl

theorem Coded.shlRegCl (w : Width) (r : Reg) : Coded.Statement (.shlRegCl w r) :=
  coded_bytes rfl (Nat.le_of_ble_eq_true rfl)

theorem Coded.shlMemCl (w : Width) (m : Mem) : Coded.Statement (.shlMemCl w m) :=
  coded_mem rfl

theorem Coded.shlRegImm8 (w : Width) (r : Reg) (i : Byte) : Coded.Statement (.shlRegImm8 w r i) :=
  coded_bytes rfl (Nat.le_of_ble_eq_true rfl)

theorem Coded.shlMemImm8 (w : Width) (m : Mem) (i : Byte) : Coded.Statement (.shlMemImm8 w m i) :=
  coded_memImm rfl (Nat.le_of_ble_eq_true rfl)

theorem Coded.shrReg1 (w : Width) (r : Reg) : Coded.Statement (.shrReg1 w r) :=
  coded_bytes rfl (Nat.le_of_ble_eq_true rfl)

theorem Coded.shrMem1 (w : Width) (m : Mem) : Coded.Statement (.shrMem1 w m) :=
  coded_mem rfl

theorem Coded.shrRegCl (w : Width) (r : Reg) : Coded.Statement (.shrRegCl w r) :=
  coded_bytes rfl (Nat.le_of_ble_eq_true rfl)

theorem Coded.shrMemCl (w : Width) (m : Mem) : Coded.Statement (.shrMemCl w m) :=
  coded_mem rfl

theorem Coded.shrRegImm8 (w : Width) (r : Reg) (i : Byte) : Coded.Statement (.shrRegImm8 w r i) :=
  coded_bytes rfl (Nat.le_of_ble_eq_true rfl)

theorem Coded.shrMemImm8 (w : Width) (m : Mem) (i : Byte) : Coded.Statement (.shrMemImm8 w m i) :=
  coded_memImm rfl (Nat.le_of_ble_eq_true rfl)

theorem Coded.shraReg1 (w : Width) (r : Reg) : Coded.Statement (.shraReg1 w r) :=
  coded_bytes rfl (Nat.le_of_ble_eq_true rfl)

theorem Coded.shraMem1 (w : Width) (m : Mem) : Coded.Statement (.shraMem1 w m) :=
  coded_mem rfl

theorem Coded.shraRegCl (w : Width) (r : Reg) : Coded.Statement (.shraRegCl w r) :=
  coded_bytes rfl (Nat.le_of_ble_eq_true rfl)

theorem Coded.shraMemCl (w : Width) (m : Mem) : Coded.Statement (.shraMemCl w m) :=
  coded_mem rfl

theorem Coded.shraRegImm8 (w : Width) (r : Reg) (i : Byte) : Coded.Statement (.shraRegImm8 w r i) :=
  coded_bytes rfl (Nat.le_of_ble_eq_true rfl)

theorem Coded.shraMemImm8 (w : Width) (m : Mem) (i : Byte) : Coded.Statement (.shraMemImm8 w m i) :=
  coded_memImm rfl (Nat.le_of_ble_eq_true rfl)

theorem Coded.rolReg1 (w : Width) (r : Reg) : Coded.Statement (.rolReg1 w r) :=
  coded_bytes rfl (Nat.le_of_ble_eq_true rfl)

theorem Coded.rolMem1 (w : Width) (m : Mem) : Coded.Statement (.rolMem1 w m) :=
  coded_mem rfl

theorem Coded.rolRegCl (w : Width) (r : Reg) : Coded.Statement (.rolRegCl w r) :=
  coded_bytes rfl (Nat.le_of_ble_eq_true rfl)

theorem Coded.rolMemCl (w : Width) (m : Mem) : Coded.Statement (.rolMemCl w m) :=
  coded_mem rfl

theorem Coded.rolRegImm8 (w : Width) (r : Reg) (i : Byte) : Coded.Statement (.rolRegImm8 w r i) :=
  coded_bytes rfl (Nat.le_of_ble_eq_true rfl)

theorem Coded.rolMemImm8 (w : Width) (m : Mem) (i : Byte) : Coded.Statement (.rolMemImm8 w m i) :=
  coded_memImm rfl (Nat.le_of_ble_eq_true rfl)

theorem Coded.rorReg1 (w : Width) (r : Reg) : Coded.Statement (.rorReg1 w r) :=
  coded_bytes rfl (Nat.le_of_ble_eq_true rfl)

theorem Coded.rorMem1 (w : Width) (m : Mem) : Coded.Statement (.rorMem1 w m) :=
  coded_mem rfl

theorem Coded.rorRegCl (w : Width) (r : Reg) : Coded.Statement (.rorRegCl w r) :=
  coded_bytes rfl (Nat.le_of_ble_eq_true rfl)

theorem Coded.rorMemCl (w : Width) (m : Mem) : Coded.Statement (.rorMemCl w m) :=
  coded_mem rfl

theorem Coded.rorRegImm8 (w : Width) (r : Reg) (i : Byte) : Coded.Statement (.rorRegImm8 w r i) :=
  coded_bytes rfl (Nat.le_of_ble_eq_true rfl)

theorem Coded.rorMemImm8 (w : Width) (m : Mem) (i : Byte) : Coded.Statement (.rorMemImm8 w m i) :=
  coded_memImm rfl (Nat.le_of_ble_eq_true rfl)

theorem Coded.rolcReg1 (w : Width) (r : Reg) : Coded.Statement (.rolcReg1 w r) :=
  coded_bytes rfl (Nat.le_of_ble_eq_true rfl)

theorem Coded.rolcMem1 (w : Width) (m : Mem) : Coded.Statement (.rolcMem1 w m) :=
  coded_mem rfl

theorem Coded.rolcRegCl (w : Width) (r : Reg) : Coded.Statement (.rolcRegCl w r) :=
  coded_bytes rfl (Nat.le_of_ble_eq_true rfl)

theorem Coded.rolcMemCl (w : Width) (m : Mem) : Coded.Statement (.rolcMemCl w m) :=
  coded_mem rfl

theorem Coded.rolcRegImm8 (w : Width) (r : Reg) (i : Byte) : Coded.Statement (.rolcRegImm8 w r i) :=
  coded_bytes rfl (Nat.le_of_ble_eq_true rfl)

theorem Coded.rolcMemImm8 (w : Width) (m : Mem) (i : Byte) : Coded.Statement (.rolcMemImm8 w m i) :=
  coded_memImm rfl (Nat.le_of_ble_eq_true rfl)

theorem Coded.rorcReg1 (w : Width) (r : Reg) : Coded.Statement (.rorcReg1 w r) :=
  coded_bytes rfl (Nat.le_of_ble_eq_true rfl)

theorem Coded.rorcMem1 (w : Width) (m : Mem) : Coded.Statement (.rorcMem1 w m) :=
  coded_mem rfl

theorem Coded.rorcRegCl (w : Width) (r : Reg) : Coded.Statement (.rorcRegCl w r) :=
  coded_bytes rfl (Nat.le_of_ble_eq_true rfl)

theorem Coded.rorcMemCl (w : Width) (m : Mem) : Coded.Statement (.rorcMemCl w m) :=
  coded_mem rfl

theorem Coded.rorcRegImm8 (w : Width) (r : Reg) (i : Byte) : Coded.Statement (.rorcRegImm8 w r i) :=
  coded_bytes rfl (Nat.le_of_ble_eq_true rfl)

theorem Coded.rorcMemImm8 (w : Width) (m : Mem) (i : Byte) : Coded.Statement (.rorcMemImm8 w m i) :=
  coded_memImm rfl (Nat.le_of_ble_eq_true rfl)

theorem Coded.callNear (disp : Word) : Coded.Statement (.callNear disp) :=
  coded_bytes rfl (Nat.le_of_ble_eq_true rfl)

theorem Coded.callReg16 (r : Reg) : Coded.Statement (.callReg16 r) :=
  coded_bytes rfl (Nat.le_of_ble_eq_true rfl)

theorem Coded.callMem16 (m : Mem) : Coded.Statement (.callMem16 m) :=
  coded_mem rfl

theorem Coded.callFar (off : Word) (seg : Word) : Coded.Statement (.callFar off seg) :=
  coded_bytes rfl (Nat.le_of_ble_eq_true rfl)

theorem Coded.callMem32 (m : Mem) : Coded.Statement (.callMem32 m) :=
  coded_mem rfl

theorem Coded.retNear : Coded.Statement .retNear :=
  coded_bytes rfl (Nat.le_of_ble_eq_true rfl)

theorem Coded.retNearPop (n : Word) : Coded.Statement (.retNearPop n) :=
  coded_bytes rfl (Nat.le_of_ble_eq_true rfl)

theorem Coded.retFar : Coded.Statement .retFar :=
  coded_bytes rfl (Nat.le_of_ble_eq_true rfl)

theorem Coded.retFarPop (n : Word) : Coded.Statement (.retFarPop n) :=
  coded_bytes rfl (Nat.le_of_ble_eq_true rfl)

theorem Coded.brNear (disp : Word) : Coded.Statement (.brNear disp) :=
  coded_bytes rfl (Nat.le_of_ble_eq_true rfl)

theorem Coded.brShort (disp : Byte) : Coded.Statement (.brShort disp) :=
  coded_bytes rfl (Nat.le_of_ble_eq_true rfl)

theorem Coded.brReg16 (r : Reg) : Coded.Statement (.brReg16 r) :=
  coded_bytes rfl (Nat.le_of_ble_eq_true rfl)

theorem Coded.brMem16 (m : Mem) : Coded.Statement (.brMem16 m) :=
  coded_mem rfl

theorem Coded.brFar (off : Word) (seg : Word) : Coded.Statement (.brFar off seg) :=
  coded_bytes rfl (Nat.le_of_ble_eq_true rfl)

theorem Coded.brMem32 (m : Mem) : Coded.Statement (.brMem32 m) :=
  coded_mem rfl

theorem Coded.pushMem16 (m : Mem) : Coded.Statement (.pushMem16 m) :=
  coded_mem rfl

theorem Coded.pushReg16 (r : Reg) : Coded.Statement (.pushReg16 r) :=
  coded_bytes rfl (Nat.le_of_ble_eq_true rfl)

theorem Coded.pushSreg (sr : Sreg) : Coded.Statement (.pushSreg sr) :=
  coded_bytes rfl (Nat.le_of_ble_eq_true rfl)

theorem Coded.pushPsw : Coded.Statement .pushPsw :=
  coded_bytes rfl (Nat.le_of_ble_eq_true rfl)

theorem Coded.pushR : Coded.Statement .pushR :=
  coded_bytes rfl (Nat.le_of_ble_eq_true rfl)

theorem Coded.pushImm8 (i : Byte) : Coded.Statement (.pushImm8 i) :=
  coded_bytes rfl (Nat.le_of_ble_eq_true rfl)

theorem Coded.pushImm16 (imm : Word) : Coded.Statement (.pushImm16 imm) :=
  coded_bytes rfl (Nat.le_of_ble_eq_true rfl)

theorem Coded.popMem16 (m : Mem) : Coded.Statement (.popMem16 m) :=
  coded_mem rfl

theorem Coded.popReg16 (r : Reg) : Coded.Statement (.popReg16 r) :=
  coded_bytes rfl (Nat.le_of_ble_eq_true rfl)

theorem Coded.popSreg (sr : Sreg) : Coded.Statement (.popSreg sr) :=
  coded_bytes rfl (Nat.le_of_ble_eq_true rfl)

theorem Coded.popPsw : Coded.Statement .popPsw :=
  coded_bytes rfl (Nat.le_of_ble_eq_true rfl)

theorem Coded.popR : Coded.Statement .popR :=
  coded_bytes rfl (Nat.le_of_ble_eq_true rfl)

theorem Coded.prepare (size : Word) (level : Byte) : Coded.Statement (.prepare size level) :=
  coded_bytes rfl (Nat.le_of_ble_eq_true rfl)

theorem Coded.dispose : Coded.Statement .dispose :=
  coded_bytes rfl (Nat.le_of_ble_eq_true rfl)

theorem Coded.bv (disp : Byte) : Coded.Statement (.bv disp) :=
  coded_bytes rfl (Nat.le_of_ble_eq_true rfl)

theorem Coded.bnv (disp : Byte) : Coded.Statement (.bnv disp) :=
  coded_bytes rfl (Nat.le_of_ble_eq_true rfl)

theorem Coded.bc (disp : Byte) : Coded.Statement (.bc disp) :=
  coded_bytes rfl (Nat.le_of_ble_eq_true rfl)

theorem Coded.bnc (disp : Byte) : Coded.Statement (.bnc disp) :=
  coded_bytes rfl (Nat.le_of_ble_eq_true rfl)

theorem Coded.be (disp : Byte) : Coded.Statement (.be disp) :=
  coded_bytes rfl (Nat.le_of_ble_eq_true rfl)

theorem Coded.bne (disp : Byte) : Coded.Statement (.bne disp) :=
  coded_bytes rfl (Nat.le_of_ble_eq_true rfl)

theorem Coded.bnh (disp : Byte) : Coded.Statement (.bnh disp) :=
  coded_bytes rfl (Nat.le_of_ble_eq_true rfl)

theorem Coded.bh (disp : Byte) : Coded.Statement (.bh disp) :=
  coded_bytes rfl (Nat.le_of_ble_eq_true rfl)

theorem Coded.bn (disp : Byte) : Coded.Statement (.bn disp) :=
  coded_bytes rfl (Nat.le_of_ble_eq_true rfl)

theorem Coded.bp (disp : Byte) : Coded.Statement (.bp disp) :=
  coded_bytes rfl (Nat.le_of_ble_eq_true rfl)

theorem Coded.bpe (disp : Byte) : Coded.Statement (.bpe disp) :=
  coded_bytes rfl (Nat.le_of_ble_eq_true rfl)

theorem Coded.bpo (disp : Byte) : Coded.Statement (.bpo disp) :=
  coded_bytes rfl (Nat.le_of_ble_eq_true rfl)

theorem Coded.blt (disp : Byte) : Coded.Statement (.blt disp) :=
  coded_bytes rfl (Nat.le_of_ble_eq_true rfl)

theorem Coded.bge (disp : Byte) : Coded.Statement (.bge disp) :=
  coded_bytes rfl (Nat.le_of_ble_eq_true rfl)

theorem Coded.ble (disp : Byte) : Coded.Statement (.ble disp) :=
  coded_bytes rfl (Nat.le_of_ble_eq_true rfl)

theorem Coded.bgt (disp : Byte) : Coded.Statement (.bgt disp) :=
  coded_bytes rfl (Nat.le_of_ble_eq_true rfl)

theorem Coded.dbnzne (disp : Byte) : Coded.Statement (.dbnzne disp) :=
  coded_bytes rfl (Nat.le_of_ble_eq_true rfl)

theorem Coded.dbnze (disp : Byte) : Coded.Statement (.dbnze disp) :=
  coded_bytes rfl (Nat.le_of_ble_eq_true rfl)

theorem Coded.dbnz (disp : Byte) : Coded.Statement (.dbnz disp) :=
  coded_bytes rfl (Nat.le_of_ble_eq_true rfl)

theorem Coded.bcwz (disp : Byte) : Coded.Statement (.bcwz disp) :=
  coded_bytes rfl (Nat.le_of_ble_eq_true rfl)

theorem Coded.brk3 : Coded.Statement .brk3 :=
  coded_bytes rfl (Nat.le_of_ble_eq_true rfl)

theorem Coded.brkImm8 (n : Byte) : Coded.Statement (.brkImm8 n) :=
  coded_bytes rfl (Nat.le_of_ble_eq_true rfl)

theorem Coded.brkv : Coded.Statement .brkv :=
  coded_bytes rfl (Nat.le_of_ble_eq_true rfl)

theorem Coded.reti : Coded.Statement .reti :=
  coded_bytes rfl (Nat.le_of_ble_eq_true rfl)

theorem Coded.brkem (n : Byte) : Coded.Statement (.brkem n) :=
  coded_bytes rfl (Nat.le_of_ble_eq_true rfl)

theorem Coded.chkind (r : Reg) (m : Mem) : Coded.Statement (.chkind r m) :=
  coded_mem rfl

theorem Coded.halt : Coded.Statement .halt :=
  coded_bytes rfl (Nat.le_of_ble_eq_true rfl)

theorem Coded.di : Coded.Statement .di :=
  coded_bytes rfl (Nat.le_of_ble_eq_true rfl)

theorem Coded.poll : Coded.Statement .poll :=
  coded_bytes rfl (Nat.le_of_ble_eq_true rfl)

theorem Coded.ei : Coded.Statement .ei :=
  coded_bytes rfl (Nat.le_of_ble_eq_true rfl)

theorem Coded.buslock : Coded.Statement .buslock :=
  coded_bytes rfl (Nat.le_of_ble_eq_true rfl)

theorem Coded.nop : Coded.Statement .nop :=
  coded_bytes rfl (Nat.le_of_ble_eq_true rfl)

theorem Coded.fpo1 (x : BitVec 3) (y : BitVec 3) (z : BitVec 3) : Coded.Statement (.fpo1 x y z) :=
  coded_bytes rfl (Nat.le_of_ble_eq_true rfl)

theorem Coded.fpo1Mem (x : BitVec 3) (y : BitVec 3) (m : Mem) : Coded.Statement (.fpo1Mem x y m) :=
  coded_mem rfl

theorem Coded.fpo2 (x : Bool) (y : BitVec 3) (z : BitVec 3) : Coded.Statement (.fpo2 x y z) :=
  coded_bytes rfl (Nat.le_of_ble_eq_true rfl)

theorem Coded.fpo2Mem (x : Bool) (y : BitVec 3) (m : Mem) : Coded.Statement (.fpo2Mem x y m) :=
  coded_mem rfl

theorem Coded.segOverride (sr : Sreg) : Coded.Statement (.segOverride sr) :=
  coded_bytes rfl (Nat.le_of_ble_eq_true rfl)

theorem Coded.calln (n : Byte) : Coded.Statement (.calln n) :=
  coded_bytes rfl (Nat.le_of_ble_eq_true rfl)

theorem Coded.retem : Coded.Statement .retem :=
  coded_bytes rfl (Nat.le_of_ble_eq_true rfl)

theorem Coded.movRegRegAlt (w : Width) (d : Reg) (r : Reg) : Coded.Statement (.movRegRegAlt w d r) :=
  coded_bytes rfl (Nat.le_of_ble_eq_true rfl)

theorem Coded.movRegImmAlt (w : Width) (r : Reg) (imm : Word) : Coded.Statement (.movRegImmAlt w r imm) :=
  coded_regImm rfl (immBytes_length w imm)

theorem Coded.addRegRegAlt (w : Width) (d : Reg) (r : Reg) : Coded.Statement (.addRegRegAlt w d r) :=
  coded_bytes rfl (Nat.le_of_ble_eq_true rfl)

theorem Coded.addcRegRegAlt (w : Width) (d : Reg) (r : Reg) : Coded.Statement (.addcRegRegAlt w d r) :=
  coded_bytes rfl (Nat.le_of_ble_eq_true rfl)

theorem Coded.subRegRegAlt (w : Width) (d : Reg) (r : Reg) : Coded.Statement (.subRegRegAlt w d r) :=
  coded_bytes rfl (Nat.le_of_ble_eq_true rfl)

theorem Coded.subcRegRegAlt (w : Width) (d : Reg) (r : Reg) : Coded.Statement (.subcRegRegAlt w d r) :=
  coded_bytes rfl (Nat.le_of_ble_eq_true rfl)

theorem Coded.incReg16Alt (r : Reg) : Coded.Statement (.incReg16Alt r) :=
  coded_bytes rfl (Nat.le_of_ble_eq_true rfl)

theorem Coded.decReg16Alt (r : Reg) : Coded.Statement (.decReg16Alt r) :=
  coded_bytes rfl (Nat.le_of_ble_eq_true rfl)

theorem Coded.cmpRegRegAlt (w : Width) (d : Reg) (r : Reg) : Coded.Statement (.cmpRegRegAlt w d r) :=
  coded_bytes rfl (Nat.le_of_ble_eq_true rfl)

theorem Coded.andRegRegAlt (w : Width) (d : Reg) (r : Reg) : Coded.Statement (.andRegRegAlt w d r) :=
  coded_bytes rfl (Nat.le_of_ble_eq_true rfl)

theorem Coded.andRegImmAlt (w : Width) (r : Reg) (i : Byte) : Coded.Statement (.andRegImmAlt w r i) :=
  coded_bytes rfl (Nat.le_of_ble_eq_true rfl)

theorem Coded.andMemImmAlt (w : Width) (m : Mem) (i : Byte) : Coded.Statement (.andMemImmAlt w m i) :=
  coded_memImm rfl (Nat.le_of_ble_eq_true rfl)

theorem Coded.orRegRegAlt (w : Width) (d : Reg) (r : Reg) : Coded.Statement (.orRegRegAlt w d r) :=
  coded_bytes rfl (Nat.le_of_ble_eq_true rfl)

theorem Coded.orRegImmAlt (w : Width) (r : Reg) (i : Byte) : Coded.Statement (.orRegImmAlt w r i) :=
  coded_bytes rfl (Nat.le_of_ble_eq_true rfl)

theorem Coded.orMemImmAlt (w : Width) (m : Mem) (i : Byte) : Coded.Statement (.orMemImmAlt w m i) :=
  coded_memImm rfl (Nat.le_of_ble_eq_true rfl)

theorem Coded.xorRegRegAlt (w : Width) (d : Reg) (r : Reg) : Coded.Statement (.xorRegRegAlt w d r) :=
  coded_bytes rfl (Nat.le_of_ble_eq_true rfl)

theorem Coded.xorRegImmAlt (w : Width) (r : Reg) (i : Byte) : Coded.Statement (.xorRegImmAlt w r i) :=
  coded_bytes rfl (Nat.le_of_ble_eq_true rfl)

theorem Coded.xorMemImmAlt (w : Width) (m : Mem) (i : Byte) : Coded.Statement (.xorMemImmAlt w m i) :=
  coded_memImm rfl (Nat.le_of_ble_eq_true rfl)

theorem Coded.pushReg16Alt (r : Reg) : Coded.Statement (.pushReg16Alt r) :=
  coded_bytes rfl (Nat.le_of_ble_eq_true rfl)

theorem Coded.popReg16Alt (r : Reg) : Coded.Statement (.popReg16Alt r) :=
  coded_bytes rfl (Nat.le_of_ble_eq_true rfl)

end Sys2Proof.Laws
end

