-- ==== Sys2Proof/Tests/Slice0.lean ====
section
/-! SUPPORT. The model's own tests: the checks of WellFormed, words written out from the encodings, single steps with
the results that spec/95_test_vectors.md lists (the vector's number in the name), and for every statement with
hypotheses a state and operands that meet them. -/

namespace Sys2Proof.Tests

open Sys2Proof.Machine

set_option maxRecDepth 100000

/-! ## Helpers -/

/-- Bytes from a physical address on. -/
def poke : Nat → List Byte → State → State
  | _, [], s => s
  | a, b :: rest, s => poke (a + 1) rest { s with mem := Memory.write s.mem a b }

/-- The start state of spec/95_test_vectors.md. -/
def base : State :=
  { State.reset with ps := 0x1000, pc := 0x100, ss := 0x2000, ds0 := 0x3000, ds1 := 0x4000, sp := 0x100 }

/-- What one step from bytes at PS:PC leaves. -/
noncomputable def after (bytes : List Byte) (s : State) (p : State → Bool) : Bool :=
  match step (storeBytes bytes s.pc s) with
  | .next t => p t
  | _ => false

/-- The flags V S Z AC P CY as a number of six binary digits. -/
def status (f : Psw) : Nat :=
  32 * f.v.toNat + 16 * f.s.toNat + 8 * f.z.toNat + 4 * f.ac.toNat + 2 * f.p.toNat + f.cy.toNat

/-- The flags of `base` with CY set. -/
def carry : Psw := { Psw.reset with cy := true }

/-- Each list of bytes is read as the instruction beside it, with nothing left. -/
noncomputable def allRead (rows : List (Bool × List Byte × Instr)) : Bool :=
  rows.all fun row =>
    match decode row.1 row.2.1 with
    | .ok (i, []) => i == row.2.2
    | _ => false

/-- Each list of bytes is refused in the native mode. -/
noncomputable def allRefused (rows : List (List Byte)) : Bool :=
  rows.all fun row =>
    match decode true row with
    | .ok _ => false
    | .error _ => true

/-! ## WellFormed: an ill-formed term for each check -/

theorem test_wf_mem_bp : (Instr.ldea .bl_bw (.ind .bp)).wf = false := by decide
theorem test_wf_byte_immediate : (Instr.movRegImm .byte .al_aw 0x0100).wf = false := by decide
theorem test_wf_sw_immediate : (Instr.addRegImm .w83 .al_aw 0x0100).wf = false := by decide
theorem test_wf_sw_word : (Instr.addRegImm .w81 .al_aw 0x0100).wf = true := by decide
theorem test_wf_mov_ps : (Instr.movSregReg16 .ps .al_aw).wf = false := by decide
theorem test_wf_pop_ps : (Instr.popSreg .ps).wf = false := by decide
theorem test_wf_xch_aw : (Instr.xchAwReg16 .al_aw).wf = false := by decide

/-! ## Decoding -/

/-- Words of the encoding column of the opcode table: data transfer. -/
theorem test_decode_transfer_1 :
    allRead
      [
       (true, [0x8A, 0xDD], .movRegReg .byte .bl_bw .ch_bp),
       (true, [0x89, 0xB3, 0xEF, 0xBE], .movMemReg .word (.disp16 .bp_iy 0xBEEF) .dh_ix),
       (true, [0x8A, 0x0D], .movRegMem .byte .cl_cw (.ind .iy)),
       (true, [0xC7, 0x06, 0x34, 0x12, 0x21, 0x43], .movMemImm .word (.direct 0x1234) 0x4321),
       (true, [0xB2, 0xA7], .movRegImm .byte .dl_dw 0xA7),
       (true, [0xA1, 0x21, 0x43], .movAccDmem .word 0x4321),
       (true, [0xA2, 0x21, 0x43], .movDmemAcc .byte 0x4321),
       (true, [0x8E, 0xD0], .movSregReg16 .ss .al_aw),
       (true, [0x8E, 0x5B, 0x9C], .movSregMem16 .ds0 (.disp8 .bp_iy 0x9C)),
       (true, [0x8C, 0xC6], .movReg16Sreg .dh_ix .ds1),
       (true, [0x8C, 0x17], .movMem16Sreg (.ind .bw) .ss),
       (true, [0xC5, 0x2E, 0x34, 0x12], .movDs0Reg16Mem32 .ch_bp (.direct 0x1234)),
       (true, [0xC4, 0x54, 0x9C], .movDs1Reg16Mem32 .dl_dw (.disp8 .ix 0x9C)),
       (true, [0x9F], .movAhPsw),
       (true, [0x9E], .movPswAh),
       (true, [0x8D, 0x06, 0x34, 0x12], .ldea .al_aw (.direct 0x1234)),
       (true, [0xD7], .trans),
       (true, [0x87, 0xCE], .xchRegReg .word .cl_cw .dh_ix)] = true := by
  decide

/-- Words of the encoding column of the opcode table: data transfer. -/
theorem test_decode_transfer_2 :
    allRead
      [
       (true, [0x86, 0x0A], .xchMemReg .byte (.ind .bp_ix) .cl_cw),
       (true, [0x95], .xchAwReg16 .ch_bp),
       (true, [0x88, 0xD0], .movRegRegAlt .byte .al_aw .dl_dw),
       (true, [0xC7, 0xC7, 0x21, 0x43], .movRegImmAlt .word .bh_iy 0x4321)] = true := by
  decide

/-- Words of the encoding column of the opcode table: repeat, block, bit field, input and output. -/
theorem test_decode_block_bitfield_io_1 :
    allRead
      [
       (true, [0x65], .repc),
       (true, [0x64], .repnc),
       (true, [0xF3], .rep),
       (true, [0xF2], .repne),
       (true, [0xA4], .movbk .byte),
       (true, [0xA7], .cmpbk .word),
       (true, [0xAE], .cmpm .byte),
       (true, [0xAD], .ldm .word),
       (true, [0xAA], .stm .byte),
       (true, [0x0F, 0x31, 0xFC], .insReg8Reg8 .ah_sp .bh_iy),
       (true, [0x0F, 0x39, 0xC4, 0xA7], .insReg8Imm4 .ah_sp 0xA7),
       (true, [0x0F, 0x33, 0xC6], .extReg8Reg8 .dh_ix .al_aw),
       (true, [0x0F, 0x3B, 0xC3, 0xA7], .extReg8Imm4 .bl_bw 0xA7),
       (true, [0xE5, 0xA7], .inAccImm8 .word 0xA7),
       (true, [0xEC], .inAccDw .byte),
       (true, [0xE7, 0xA7], .outImm8Acc .word 0xA7),
       (true, [0xEE], .outDwAcc .byte),
       (true, [0x6D], .inm .word)] = true := by
  decide

/-- Words of the encoding column of the opcode table: repeat, block, bit field, input and output. -/
theorem test_decode_block_bitfield_io_2 :
    allRead
      [
       (true, [0x6E], .outm .byte)] = true := by
  decide

/-- Words of the encoding column of the opcode table: ADD, ADDC, SUB, SUBC. -/
theorem test_decode_add_sub_1 :
    allRead
      [
       (true, [0x03, 0xC6], .addRegReg .word .al_aw .dh_ix),
       (true, [0x00, 0x5C, 0x9C], .addMemReg .byte (.disp8 .ix 0x9C) .bl_bw),
       (true, [0x03, 0xB1, 0xEF, 0xBE], .addRegMem .word .dh_ix (.disp16 .bw_iy 0xBEEF)),
       (true, [0x82, 0xC1, 0xA7], .addRegImm .b82 .cl_cw 0xA7),
       (true, [0x83, 0x06, 0x34, 0x12, 0xA7], .addMemImm .w83 (.direct 0x1234) 0xA7),
       (true, [0x04, 0xA7], .addAccImm .byte 0xA7),
       (true, [0x13, 0xFC], .addcRegReg .word .bh_iy .ah_sp),
       (true, [0x10, 0x22], .addcMemReg .byte (.ind .bp_ix) .ah_sp),
       (true, [0x13, 0x06, 0x34, 0x12], .addcRegMem .word .al_aw (.direct 0x1234)),
       (true, [0x80, 0xD3, 0xA7], .addcRegImm .b80 .bl_bw 0xA7),
       (true, [0x81, 0x90, 0xEF, 0xBE, 0x21, 0x43], .addcMemImm .w81 (.disp16 .bw_ix 0xBEEF) 0x4321),
       (true, [0x14, 0xA7], .addcAccImm .byte 0xA7),
       (true, [0x2B, 0xEA], .subRegReg .word .ch_bp .dl_dw),
       (true, [0x28, 0x57, 0x9C], .subMemReg .byte (.disp8 .bw 0x9C) .dl_dw),
       (true, [0x2B, 0xBA, 0xEF, 0xBE], .subRegMem .word .bh_iy (.disp16 .bp_ix 0xBEEF)),
       (true, [0x82, 0xEC, 0xA7], .subRegImm .b82 .ah_sp 0xA7),
       (true, [0x83, 0x2E, 0x34, 0x12, 0xA7], .subMemImm .w83 (.direct 0x1234) 0xA7),
       (true, [0x2C, 0xA7], .subAccImm .byte 0xA7)] = true := by
  decide

/-- Words of the encoding column of the opcode table: ADD, ADDC, SUB, SUBC. -/
theorem test_decode_add_sub_2 :
    allRead
      [
       (true, [0x1B, 0xF1], .subcRegReg .word .dh_ix .cl_cw),
       (true, [0x18, 0x0D], .subcMemReg .byte (.ind .iy) .cl_cw),
       (true, [0x1B, 0x2E, 0x34, 0x12], .subcRegMem .word .ch_bp (.direct 0x1234)),
       (true, [0x80, 0xDA, 0xA7], .subcRegImm .b80 .dl_dw 0xA7),
       (true, [0x81, 0x9C, 0xEF, 0xBE, 0x21, 0x43], .subcMemImm .w81 (.disp16 .ix 0xBEEF) 0x4321),
       (true, [0x1C, 0xA7], .subcAccImm .byte 0xA7),
       (true, [0x00, 0xE3], .addRegRegAlt .byte .bl_bw .ah_sp),
       (true, [0x11, 0xC6], .addcRegRegAlt .word .dh_ix .al_aw),
       (true, [0x28, 0xDD], .subRegRegAlt .byte .ch_bp .bl_bw),
       (true, [0x19, 0xF1], .subcRegRegAlt .word .cl_cw .dh_ix)] = true := by
  decide

/-- Words of the encoding column of the opcode table: packed BCD. -/
theorem test_decode_bcd :
    allRead
      [
       (true, [0x0F, 0x20], .add4s),
       (true, [0x0F, 0x22], .sub4s),
       (true, [0x0F, 0x26], .cmp4s),
       (true, [0x0F, 0x28, 0xC1], .rol4Reg8 .cl_cw),
       (true, [0x0F, 0x28, 0x06, 0x34, 0x12], .rol4Mem8 (.direct 0x1234)),
       (true, [0x0F, 0x2A, 0xC2], .ror4Reg8 .dl_dw),
       (true, [0x0F, 0x2A, 0x81, 0xEF, 0xBE], .ror4Mem8 (.disp16 .bw_iy 0xBEEF))] = true := by
  decide

/-- Words of the encoding column of the opcode table: INC, DEC, multiplication, division, adjustment, conversion. -/
theorem test_decode_arithmetic_1 :
    allRead
      [
       (true, [0xFE, 0xC4], .incReg8 .ah_sp),
       (true, [0xFF, 0x06, 0x34, 0x12], .incMem .word (.direct 0x1234)),
       (true, [0x43], .incReg16 .bl_bw),
       (true, [0xFE, 0xCE], .decReg8 .dh_ix),
       (true, [0xFE, 0x0A], .decMem .byte (.ind .bp_ix)),
       (true, [0x4D], .decReg16 .ch_bp),
       (true, [0xF6, 0xE2], .muluReg8 .dl_dw),
       (true, [0xF6, 0xA0, 0xEF, 0xBE], .muluMem8 (.disp16 .bw_ix 0xBEEF)),
       (true, [0xF7, 0xE4], .muluReg16 .ah_sp),
       (true, [0xF7, 0x26, 0x34, 0x12], .muluMem16 (.direct 0x1234)),
       (true, [0xF6, 0xEB], .mulReg8 .bl_bw),
       (true, [0xF6, 0xAA, 0xEF, 0xBE], .mulMem8 (.disp16 .bp_ix 0xBEEF)),
       (true, [0xF7, 0xE9], .mulReg16 .cl_cw),
       (true, [0xF7, 0x2E, 0x34, 0x12], .mulMem16 (.direct 0x1234)),
       (true, [0x6B, 0xD0, 0xA7], .mulReg16Reg16Imm8 .dl_dw .al_aw 0xA7),
       (true, [0x6B, 0xBB, 0xEF, 0xBE, 0xA7], .mulReg16Mem16Imm8 .bh_iy (.disp16 .bp_iy 0xBEEF) 0xA7),
       (true, [0x69, 0xE3, 0x21, 0x43], .mulReg16Reg16Imm16 .ah_sp .bl_bw 0x4321),
       (true, [0x69, 0x06, 0x34, 0x12, 0x21, 0x43], .mulReg16Mem16Imm16 .al_aw (.direct 0x1234) 0x4321)] = true := by
  decide

/-- Words of the encoding column of the opcode table: INC, DEC, multiplication, division, adjustment, conversion. -/
theorem test_decode_arithmetic_2 :
    allRead
      [
       (true, [0xF6, 0xF3], .divuReg8 .bl_bw),
       (true, [0xF6, 0xB4, 0xEF, 0xBE], .divuMem8 (.disp16 .ix 0xBEEF)),
       (true, [0xF7, 0xF1], .divuReg16 .cl_cw),
       (true, [0xF7, 0x36, 0x34, 0x12], .divuMem16 (.direct 0x1234)),
       (true, [0xF6, 0xFA], .divReg8 .dl_dw),
       (true, [0xF6, 0xBD, 0xEF, 0xBE], .divMem8 (.disp16 .iy 0xBEEF)),
       (true, [0xF7, 0xFC], .divReg16 .ah_sp),
       (true, [0xF7, 0x3E, 0x34, 0x12], .divMem16 (.direct 0x1234)),
       (true, [0x37], .adjba),
       (true, [0x27], .adj4a),
       (true, [0x3F], .adjbs),
       (true, [0x2F], .adj4s),
       (true, [0xD4, 0x0A], .cvtbd),
       (true, [0xD5, 0x0A], .cvtdb),
       (true, [0x98], .cvtbw),
       (true, [0x99], .cvtwl),
       (true, [0xFF, 0xC1], .incReg16Alt .cl_cw),
       (true, [0xFF, 0xCD], .decReg16Alt .ch_bp)] = true := by
  decide

/-- Words of the encoding column of the opcode table: comparison, complement, logical operations. -/
theorem test_decode_compare_logical_1 :
    allRead
      [
       (true, [0x3A, 0xDD], .cmpRegReg .byte .bl_bw .ch_bp),
       (true, [0x39, 0xB0, 0xEF, 0xBE], .cmpMemReg .word (.disp16 .bw_ix 0xBEEF) .dh_ix),
       (true, [0x3A, 0x0B], .cmpRegMem .byte .cl_cw (.ind .bp_iy)),
       (true, [0x83, 0xFD, 0xA7], .cmpRegImm .w83 .ch_bp 0xA7),
       (true, [0x80, 0x7F, 0x9C, 0xA7], .cmpMemImm .b80 (.disp8 .bw 0x9C) 0xA7),
       (true, [0x3D, 0x21, 0x43], .cmpAccImm .word 0x4321),
       (true, [0xF6, 0xD4], .notReg .byte .ah_sp),
       (true, [0xF7, 0x16, 0x34, 0x12], .notMem .word (.direct 0x1234)),
       (true, [0xF6, 0xDB], .negReg .byte .bl_bw),
       (true, [0xF7, 0x9B, 0xEF, 0xBE], .negMem .word (.disp16 .bp_iy 0xBEEF)),
       (true, [0x84, 0xCF], .testRegReg .byte .cl_cw .bh_iy),
       (true, [0x85, 0x2E, 0x34, 0x12], .testMemReg .word (.direct 0x1234) .ch_bp),
       (true, [0xF6, 0xC2, 0xA7], .testRegImm .byte .dl_dw 0xA7),
       (true, [0xF7, 0x84, 0xEF, 0xBE, 0x21, 0x43], .testMemImm .word (.disp16 .ix 0xBEEF) 0x4321),
       (true, [0xA8, 0xA7], .testAccImm .byte 0xA7),
       (true, [0x23, 0xC6], .andRegReg .word .al_aw .dh_ix),
       (true, [0x20, 0x5B, 0x9C], .andMemReg .byte (.disp8 .bp_iy 0x9C) .bl_bw),
       (true, [0x23, 0xB5, 0xEF, 0xBE], .andRegMem .word .dh_ix (.disp16 .iy 0xBEEF))] = true := by
  decide

/-- Words of the encoding column of the opcode table: comparison, complement, logical operations. -/
theorem test_decode_compare_logical_2 :
    allRead
      [
       (true, [0x80, 0xE1, 0xA7], .andRegImm .byte .cl_cw 0xA7),
       (true, [0x81, 0x26, 0x34, 0x12, 0x21, 0x43], .andMemImm .word (.direct 0x1234) 0x4321),
       (true, [0x24, 0xA7], .andAccImm .byte 0xA7),
       (true, [0x0B, 0xFC], .orRegReg .word .bh_iy .ah_sp),
       (true, [0x08, 0x20], .orMemReg .byte (.ind .bw_ix) .ah_sp),
       (true, [0x0B, 0x06, 0x34, 0x12], .orRegMem .word .al_aw (.direct 0x1234)),
       (true, [0x80, 0xCB, 0xA7], .orRegImm .byte .bl_bw 0xA7),
       (true, [0x81, 0x8F, 0xEF, 0xBE, 0x21, 0x43], .orMemImm .word (.disp16 .bw 0xBEEF) 0x4321),
       (true, [0x0C, 0xA7], .orAccImm .byte 0xA7),
       (true, [0x33, 0xEA], .xorRegReg .word .ch_bp .dl_dw),
       (true, [0x30, 0x51, 0x9C], .xorMemReg .byte (.disp8 .bw_iy 0x9C) .dl_dw),
       (true, [0x33, 0xB8, 0xEF, 0xBE], .xorRegMem .word .bh_iy (.disp16 .bw_ix 0xBEEF)),
       (true, [0x80, 0xF4, 0xA7], .xorRegImm .byte .ah_sp 0xA7),
       (true, [0x81, 0x36, 0x34, 0x12, 0x21, 0x43], .xorMemImm .word (.direct 0x1234) 0x4321),
       (true, [0x34, 0xA7], .xorAccImm .byte 0xA7),
       (true, [0x38, 0xD0], .cmpRegRegAlt .byte .al_aw .dl_dw),
       (true, [0x21, 0xFC], .andRegRegAlt .word .ah_sp .bh_iy),
       (true, [0x82, 0xE4, 0xA7], .andRegImmAlt .byte .ah_sp 0xA7)] = true := by
  decide

/-- Words of the encoding column of the opcode table: comparison, complement, logical operations. -/
theorem test_decode_compare_logical_3 :
    allRead
      [
       (true, [0x83, 0x26, 0x34, 0x12, 0xA7], .andMemImmAlt .word (.direct 0x1234) 0xA7),
       (true, [0x08, 0xDD], .orRegRegAlt .byte .ch_bp .bl_bw),
       (true, [0x83, 0xCE, 0xA7], .orRegImmAlt .word .dh_ix 0xA7),
       (true, [0x82, 0x0A, 0xA7], .orMemImmAlt .byte (.ind .bp_ix) 0xA7),
       (true, [0x31, 0xEA], .xorRegRegAlt .word .dl_dw .ch_bp),
       (true, [0x82, 0xF2, 0xA7], .xorRegImmAlt .byte .dl_dw 0xA7),
       (true, [0x83, 0xB0, 0xEF, 0xBE, 0xA7], .xorMemImmAlt .word (.disp16 .bw_ix 0xBEEF) 0xA7)] = true := by
  decide

/-- Words of the encoding column of the opcode table: bit manipulation. -/
theorem test_decode_bits_1 :
    allRead
      [
       (true, [0x0F, 0x10, 0xC6], .test1Reg8Cl .dh_ix),
       (true, [0x0F, 0x10, 0x04], .test1Mem8Cl (.ind .ix)),
       (true, [0x0F, 0x11, 0xC5], .test1Reg16Cl .ch_bp),
       (true, [0x0F, 0x11, 0x40, 0x9C], .test1Mem16Cl (.disp8 .bw_ix 0x9C)),
       (true, [0x0F, 0x18, 0xC7, 0xA7], .test1Reg8Imm .bh_iy 0xA7),
       (true, [0x0F, 0x18, 0x05, 0xA7], .test1Mem8Imm (.ind .iy) 0xA7),
       (true, [0x0F, 0x19, 0xC0, 0xA7], .test1Reg16Imm .al_aw 0xA7),
       (true, [0x0F, 0x19, 0x42, 0x9C, 0xA7], .test1Mem16Imm (.disp8 .bp_ix 0x9C) 0xA7),
       (true, [0x0F, 0x16, 0xC6], .not1Reg8Cl .dh_ix),
       (true, [0x0F, 0x16, 0x01], .not1Mem8Cl (.ind .bw_iy)),
       (true, [0x0F, 0x17, 0xC5], .not1Reg16Cl .ch_bp),
       (true, [0x0F, 0x17, 0x43, 0x9C], .not1Mem16Cl (.disp8 .bp_iy 0x9C)),
       (true, [0x0F, 0x1E, 0xC7, 0xA7], .not1Reg8Imm .bh_iy 0xA7),
       (true, [0x0F, 0x1E, 0x07, 0xA7], .not1Mem8Imm (.ind .bw) 0xA7),
       (true, [0x0F, 0x1F, 0xC0, 0xA7], .not1Reg16Imm .al_aw 0xA7),
       (true, [0x0F, 0x1F, 0x44, 0x9C, 0xA7], .not1Mem16Imm (.disp8 .ix 0x9C) 0xA7),
       (true, [0xF5], .not1Cy),
       (true, [0x0F, 0x12, 0xC1], .clr1Reg8Cl .cl_cw)] = true := by
  decide

/-- Words of the encoding column of the opcode table: bit manipulation. -/
theorem test_decode_bits_2 :
    allRead
      [
       (true, [0x0F, 0x12, 0x06, 0x34, 0x12], .clr1Mem8Cl (.direct 0x1234)),
       (true, [0x0F, 0x13, 0xC2], .clr1Reg16Cl .dl_dw),
       (true, [0x0F, 0x13, 0x87, 0xEF, 0xBE], .clr1Mem16Cl (.disp16 .bw 0xBEEF)),
       (true, [0x0F, 0x1A, 0xC4, 0xA7], .clr1Reg8Imm .ah_sp 0xA7),
       (true, [0x0F, 0x1A, 0x06, 0x34, 0x12, 0xA7], .clr1Mem8Imm (.direct 0x1234) 0xA7),
       (true, [0x0F, 0x1B, 0xC3, 0xA7], .clr1Reg16Imm .bl_bw 0xA7),
       (true, [0x0F, 0x1B, 0x80, 0xEF, 0xBE, 0xA7], .clr1Mem16Imm (.disp16 .bw_ix 0xBEEF) 0xA7),
       (true, [0xF8], .clr1Cy),
       (true, [0xFC], .clr1Dir),
       (true, [0x0F, 0x14, 0xC2], .set1Reg8Cl .dl_dw),
       (true, [0x0F, 0x14, 0x82, 0xEF, 0xBE], .set1Mem8Cl (.disp16 .bp_ix 0xBEEF)),
       (true, [0x0F, 0x15, 0xC4], .set1Reg16Cl .ah_sp),
       (true, [0x0F, 0x15, 0x06, 0x34, 0x12], .set1Mem16Cl (.direct 0x1234)),
       (true, [0x0F, 0x1C, 0xC3, 0xA7], .set1Reg8Imm .bl_bw 0xA7),
       (true, [0x0F, 0x1C, 0x83, 0xEF, 0xBE, 0xA7], .set1Mem8Imm (.disp16 .bp_iy 0xBEEF) 0xA7),
       (true, [0x0F, 0x1D, 0xC1, 0xA7], .set1Reg16Imm .cl_cw 0xA7),
       (true, [0x0F, 0x1D, 0x06, 0x34, 0x12, 0xA7], .set1Mem16Imm (.direct 0x1234) 0xA7),
       (true, [0xF9], .set1Cy)] = true := by
  decide

/-- Words of the encoding column of the opcode table: bit manipulation. -/
theorem test_decode_bits_3 :
    allRead
      [
       (true, [0xFD], .set1Dir)] = true := by
  decide

/-- Words of the encoding column of the opcode table: shifts and rotates. -/
theorem test_decode_shifts_1 :
    allRead
      [
       (true, [0xD0, 0xE4], .shlReg1 .byte .ah_sp),
       (true, [0xD1, 0x26, 0x34, 0x12], .shlMem1 .word (.direct 0x1234)),
       (true, [0xD2, 0xE3], .shlRegCl .byte .bl_bw),
       (true, [0xD3, 0xA5, 0xEF, 0xBE], .shlMemCl .word (.disp16 .iy 0xBEEF)),
       (true, [0xC0, 0xE1, 0xA7], .shlRegImm8 .byte .cl_cw 0xA7),
       (true, [0xC1, 0x26, 0x34, 0x12, 0xA7], .shlMemImm8 .word (.direct 0x1234) 0xA7),
       (true, [0xD0, 0xEA], .shrReg1 .byte .dl_dw),
       (true, [0xD1, 0xA9, 0xEF, 0xBE], .shrMem1 .word (.disp16 .bw_iy 0xBEEF)),
       (true, [0xD2, 0xEC], .shrRegCl .byte .ah_sp),
       (true, [0xD3, 0x2E, 0x34, 0x12], .shrMemCl .word (.direct 0x1234)),
       (true, [0xC0, 0xEB, 0xA7], .shrRegImm8 .byte .bl_bw 0xA7),
       (true, [0xC1, 0xAF, 0xEF, 0xBE, 0xA7], .shrMemImm8 .word (.disp16 .bw 0xBEEF) 0xA7),
       (true, [0xD0, 0xF9], .shraReg1 .byte .cl_cw),
       (true, [0xD1, 0x3E, 0x34, 0x12], .shraMem1 .word (.direct 0x1234)),
       (true, [0xD2, 0xFA], .shraRegCl .byte .dl_dw),
       (true, [0xD3, 0xB8, 0xEF, 0xBE], .shraMemCl .word (.disp16 .bw_ix 0xBEEF)),
       (true, [0xC0, 0xFC, 0xA7], .shraRegImm8 .byte .ah_sp 0xA7),
       (true, [0xC1, 0x3E, 0x34, 0x12, 0xA7], .shraMemImm8 .word (.direct 0x1234) 0xA7)] = true := by
  decide

/-- Words of the encoding column of the opcode table: shifts and rotates. -/
theorem test_decode_shifts_2 :
    allRead
      [
       (true, [0xD0, 0xC3], .rolReg1 .byte .bl_bw),
       (true, [0xD1, 0x82, 0xEF, 0xBE], .rolMem1 .word (.disp16 .bp_ix 0xBEEF)),
       (true, [0xD2, 0xC1], .rolRegCl .byte .cl_cw),
       (true, [0xD3, 0x06, 0x34, 0x12], .rolMemCl .word (.direct 0x1234)),
       (true, [0xC0, 0xC2, 0xA7], .rolRegImm8 .byte .dl_dw 0xA7),
       (true, [0xC1, 0x83, 0xEF, 0xBE, 0xA7], .rolMemImm8 .word (.disp16 .bp_iy 0xBEEF) 0xA7),
       (true, [0xD0, 0xCC], .rorReg1 .byte .ah_sp),
       (true, [0xD1, 0x0E, 0x34, 0x12], .rorMem1 .word (.direct 0x1234)),
       (true, [0xD2, 0xCB], .rorRegCl .byte .bl_bw),
       (true, [0xD3, 0x8C, 0xEF, 0xBE], .rorMemCl .word (.disp16 .ix 0xBEEF)),
       (true, [0xC0, 0xC9, 0xA7], .rorRegImm8 .byte .cl_cw 0xA7),
       (true, [0xC1, 0x0E, 0x34, 0x12, 0xA7], .rorMemImm8 .word (.direct 0x1234) 0xA7),
       (true, [0xD0, 0xD2], .rolcReg1 .byte .dl_dw),
       (true, [0xD1, 0x95, 0xEF, 0xBE], .rolcMem1 .word (.disp16 .iy 0xBEEF)),
       (true, [0xD2, 0xD4], .rolcRegCl .byte .ah_sp),
       (true, [0xD3, 0x16, 0x34, 0x12], .rolcMemCl .word (.direct 0x1234)),
       (true, [0xC0, 0xD3, 0xA7], .rolcRegImm8 .byte .bl_bw 0xA7),
       (true, [0xC1, 0x91, 0xEF, 0xBE, 0xA7], .rolcMemImm8 .word (.disp16 .bw_iy 0xBEEF) 0xA7)] = true := by
  decide

/-- Words of the encoding column of the opcode table: shifts and rotates. -/
theorem test_decode_shifts_3 :
    allRead
      [
       (true, [0xD0, 0xD9], .rorcReg1 .byte .cl_cw),
       (true, [0xD1, 0x1E, 0x34, 0x12], .rorcMem1 .word (.direct 0x1234)),
       (true, [0xD2, 0xDA], .rorcRegCl .byte .dl_dw),
       (true, [0xD3, 0x9F, 0xEF, 0xBE], .rorcMemCl .word (.disp16 .bw 0xBEEF)),
       (true, [0xC0, 0xDC, 0xA7], .rorcRegImm8 .byte .ah_sp 0xA7),
       (true, [0xC1, 0x1E, 0x34, 0x12, 0xA7], .rorcMemImm8 .word (.direct 0x1234) 0xA7)] = true := by
  decide

/-- Words of the encoding column of the opcode table: control transfer and stack. -/
theorem test_decode_control_stack_1 :
    allRead
      [
       (true, [0xE8, 0x21, 0x43], .callNear 0x4321),
       (true, [0xFF, 0xD6], .callReg16 .dh_ix),
       (true, [0xFF, 0x13], .callMem16 (.ind .bp_iy)),
       (true, [0x9A, 0x21, 0x43, 0x65, 0x87], .callFar 0x4321 0x8765),
       (true, [0xFF, 0x5F, 0x9C], .callMem32 (.disp8 .bw 0x9C)),
       (true, [0xC3], .retNear),
       (true, [0xC2, 0x21, 0x43], .retNearPop 0x4321),
       (true, [0xCB], .retFar),
       (true, [0xCA, 0x21, 0x43], .retFarPop 0x4321),
       (true, [0xE9, 0x21, 0x43], .brNear 0x4321),
       (true, [0xEB, 0xA7], .brShort 0xA7),
       (true, [0xFF, 0xE5], .brReg16 .ch_bp),
       (true, [0xFF, 0x62, 0x9C], .brMem16 (.disp8 .bp_ix 0x9C)),
       (true, [0xEA, 0x21, 0x43, 0x65, 0x87], .brFar 0x4321 0x8765),
       (true, [0xFF, 0x29], .brMem32 (.ind .bw_iy)),
       (true, [0xFF, 0x36, 0x34, 0x12], .pushMem16 (.direct 0x1234)),
       (true, [0x53], .pushReg16 .bl_bw),
       (true, [0x1E], .pushSreg .ds0)] = true := by
  decide

/-- Words of the encoding column of the opcode table: control transfer and stack. -/
theorem test_decode_control_stack_2 :
    allRead
      [
       (true, [0x9C], .pushPsw),
       (true, [0x60], .pushR),
       (true, [0x6A, 0xA7], .pushImm8 0xA7),
       (true, [0x68, 0x21, 0x43], .pushImm16 0x4321),
       (true, [0x8F, 0x00], .popMem16 (.ind .bw_ix)),
       (true, [0x58], .popReg16 .al_aw),
       (true, [0x07], .popSreg .ds1),
       (true, [0x9D], .popPsw),
       (true, [0x61], .popR),
       (true, [0xC8, 0x21, 0x43, 0xA7], .prepare 0x4321 0xA7),
       (true, [0xC9], .dispose),
       (true, [0x70, 0xA7], .bv 0xA7),
       (true, [0x71, 0xA7], .bnv 0xA7),
       (true, [0x72, 0xA7], .bc 0xA7),
       (true, [0x73, 0xA7], .bnc 0xA7),
       (true, [0x74, 0xA7], .be 0xA7),
       (true, [0x75, 0xA7], .bne 0xA7),
       (true, [0x76, 0xA7], .bnh 0xA7)] = true := by
  decide

/-- Words of the encoding column of the opcode table: control transfer and stack. -/
theorem test_decode_control_stack_3 :
    allRead
      [
       (true, [0x77, 0xA7], .bh 0xA7),
       (true, [0x78, 0xA7], .bn 0xA7),
       (true, [0x79, 0xA7], .bp 0xA7),
       (true, [0x7A, 0xA7], .bpe 0xA7),
       (true, [0x7B, 0xA7], .bpo 0xA7),
       (true, [0x7C, 0xA7], .blt 0xA7),
       (true, [0x7D, 0xA7], .bge 0xA7),
       (true, [0x7E, 0xA7], .ble 0xA7),
       (true, [0x7F, 0xA7], .bgt 0xA7),
       (true, [0xE0, 0xA7], .dbnzne 0xA7),
       (true, [0xE1, 0xA7], .dbnze 0xA7),
       (true, [0xE2, 0xA7], .dbnz 0xA7),
       (true, [0xE3, 0xA7], .bcwz 0xA7),
       (true, [0xFF, 0xF4], .pushReg16Alt .ah_sp),
       (true, [0x8F, 0xC0], .popReg16Alt .al_aw)] = true := by
  decide

/-- Words of the encoding column of the opcode table: breaks, CPU control, prefixes, emulation mode. -/
theorem test_decode_break_cpu_prefix_1 :
    allRead
      [
       (true, [0xCC], .brk3),
       (true, [0xCD, 0xA7], .brkImm8 0xA7),
       (true, [0xCE], .brkv),
       (true, [0xCF], .reti),
       (true, [0x0F, 0xFF, 0xA7], .brkem 0xA7),
       (true, [0x62, 0x22], .chkind .ah_sp (.ind .bp_ix)),
       (true, [0xF4], .halt),
       (true, [0xFA], .di),
       (true, [0x9B], .poll),
       (true, [0xFB], .ei),
       (true, [0xF0], .buslock),
       (true, [0x90], .nop),
       (true, [0xDD, 0xDE], .fpo1 5 3 6),
       (true, [0xDD, 0x1C], .fpo1Mem 5 3 (.ind .ix)),
       (true, [0x67, 0xDE], .fpo2 true 3 6),
       (true, [0x67, 0x58, 0x9C], .fpo2Mem true 3 (.disp8 .bw_ix 0x9C)),
       (true, [0x3E], .segOverride .ds0),
       (false, [0xED, 0xED, 0xA7], .calln 0xA7)] = true := by
  decide

/-- Words of the encoding column of the opcode table: breaks, CPU control, prefixes, emulation mode. -/
theorem test_decode_break_cpu_prefix_2 :
    allRead
      [
       (false, [0xED, 0xFD], .retem)] = true := by
  decide

/-- The boundaries of the rows of R153. -/
theorem test_unassigned_refused :
    allRefused
      [[0x63, 0, 0, 0, 0, 0], [0xD6, 0, 0, 0, 0, 0], [0xF1, 0, 0, 0, 0, 0], [0x0F, 0x0F, 0, 0, 0, 0],
       [0x0F, 0x21, 0, 0, 0, 0], [0x0F, 0xFE, 0, 0, 0, 0], [0x0F, 0x10, 0xC8, 0, 0, 0], [0x0F, 0x1F, 0x38, 0, 0, 0],
       [0x0F, 0x28, 0xC8, 0, 0, 0], [0x0F, 0x2A, 0x38, 0, 0, 0], [0x0F, 0x31, 0x80, 0, 0, 0],
       [0x0F, 0x3B, 0xC8, 0, 0, 0], [0x8C, 0xE0, 0, 0, 0, 0], [0x8E, 0xC8, 0, 0, 0, 0], [0x8F, 0xC8, 0, 0, 0, 0],
       [0xC6, 0x08, 0, 0, 0, 0], [0xC7, 0xF8, 0, 0, 0, 0], [0xC0, 0xF0, 0, 0, 0, 0], [0xD3, 0x30, 0, 0, 0, 0],
       [0xD4, 0x0B, 0, 0, 0, 0], [0xD5, 0x09, 0, 0, 0, 0], [0xF6, 0xC8, 0, 0, 0, 0], [0xF7, 0x08, 0, 0, 0, 0],
       [0xFE, 0xD0, 0, 0, 0, 0], [0xFE, 0x38, 0, 0, 0, 0], [0xFF, 0xF8, 0, 0, 0, 0], [0x8D, 0xC0, 0, 0, 0, 0],
       [0xC4, 0xFF, 0, 0, 0, 0], [0x62, 0xC0, 0, 0, 0, 0], [0xFF, 0xD8, 0, 0, 0, 0], [0xFF, 0xE8, 0, 0, 0, 0]] =
      true := by decide

/-- In the emulation mode CALLN and RETEM alone are decoded (R155, R722). -/
theorem test_emulation_refused : (decode false [0x90] matches .error _) = true := by decide

/-- The second word of an instruction lies above the first (bit 15..8 is the second byte). -/
theorem test_table_word : decodeTableWord 16 0x02C3 = some (.addRegReg .byte .al_aw .bl_bw) := by decide

/-- The word of a row of the table runs as the first instruction after reset: INC AW (40H), placed at FFFF0H. -/
theorem test_fetch_word_runs :
    (match step (State.reset.withFetchWord 8 0x40) with
      | .next t => t.aw == 1 && t.pc == 1 && t.ps == 0xFFFF && t.psw.p == false
      | _ => false) = true := by decide

/-! ## Single steps: ADD, SUB, CMP, INC, DEC, NEG (vectors A) -/

theorem test_add_a1 : after [0x02, 0xC3] { base with aw := 0x7F, bw := 1 } (fun t =>
    decide (t.aw = 0x80 ∧ status t.psw = 0b110100 ∧ t.pc = 0x102)) = true := by decide
theorem test_add_a8 : after [0x83, 0xC3, 0xFF] base (fun t =>
    decide (t.bw = 0xFFFF ∧ status t.psw = 0b010010 ∧ t.pc = 0x103)) = true := by decide
theorem test_addc_a10 : after [0x12, 0xC3] { base with aw := 0xFF, psw := carry } (fun t =>
    decide (t.aw = 0 ∧ status t.psw = 0b001111)) = true := by decide
theorem test_addc_a13 : after [0x13, 0xC3] { base with aw := 0xFFFF, bw := 0xFFFF, psw := carry } (fun t =>
    decide (t.aw = 0xFFFF ∧ status t.psw = 0b010111)) = true := by decide
theorem test_sub_a14 : after [0x2A, 0xC3] { base with bw := 1 } (fun t =>
    decide (t.aw = 0xFF ∧ status t.psw = 0b010111)) = true := by decide
theorem test_sub_a16 : after [0x2A, 0xC3] { base with aw := 0x7F, bw := 0xFF } (fun t =>
    decide (t.aw = 0x80 ∧ status t.psw = 0b110001)) = true := by decide
theorem test_subc_a20 : after [0x1A, 0xC3] { base with bw := 0xFF, psw := carry } (fun t =>
    decide (t.aw = 0 ∧ status t.psw = 0b001111)) = true := by decide
theorem test_cmp_a26 : after [0x3A, 0xC3] { base with aw := 0x80, bw := 0x7F } (fun t =>
    decide (t.aw = 0x80 ∧ status t.psw = 0b100100)) = true := by decide
theorem test_inc_a31 : after [0x43] { base with bw := 0xFFFF, psw := carry } (fun t =>
    decide (t.bw = 0 ∧ status t.psw = 0b001111)) = true := by decide
theorem test_dec_a34 : after [0xFE, 0xCE] { base with dw := 0x8000, psw := carry } (fun t =>
    decide (t.dw = 0x7F00 ∧ status t.psw = 0b100101)) = true := by decide
theorem test_neg_a38 : after [0xF6, 0xD8] { base with aw := 0x80 } (fun t =>
    decide (t.aw = 0x80 ∧ status t.psw = 0b110001)) = true := by decide

/-! ## Logical operations (vectors L) -/

theorem test_and_l2 : after [0x23, 0xC3] { base with aw := 0xFF00, bw := 0x8F00, psw := carry } (fun t =>
    decide (t.aw = 0x8F00 ∧ t.psw.v = false ∧ t.psw.s ∧ ¬t.psw.z ∧ t.psw.p ∧ ¬t.psw.cy)) = true := by decide
theorem test_or_l12 : after [0x83, 0xCB, 0x80] { base with bw := 1 } (fun t =>
    decide (t.bw = 0xFF81 ∧ t.psw.s ∧ t.psw.p)) = true := by decide
theorem test_xor_l5 : after [0x33, 0xC0] { base with aw := 0x1234, psw := carry } (fun t =>
    decide (t.aw = 0 ∧ t.psw.z ∧ ¬t.psw.s ∧ t.psw.p ∧ ¬t.psw.cy)) = true := by decide
theorem test_not_l9 : after [0xF6, 0xD0] { base with aw := 0x55, psw := { carry with z := true } } (fun t =>
    decide (t.aw = 0xAA ∧ status t.psw = 0b001001)) = true := by decide

/-! ## Shifts and rotates (vectors S) -/

theorem test_shl_s1 : after [0xD0, 0xE0] { base with aw := 0x80 } (fun t =>
    decide (t.aw = 0 ∧ t.psw.v ∧ ¬t.psw.s ∧ t.psw.z ∧ t.psw.p ∧ t.psw.cy)) = true := by decide
theorem test_shl_s6 : after [0xD3, 0xE0] { base with aw := 0xFFFF, cw := 0x11 } (fun t =>
    decide (t.aw = 0 ∧ t.psw.z ∧ ¬t.psw.cy)) = true := by decide
theorem test_shr_s14 : after [0xD3, 0xE8] { base with aw := 0x8000, cw := 0x10 } (fun t =>
    decide (t.aw = 0 ∧ t.psw.z ∧ t.psw.cy)) = true := by decide
theorem test_shra_s17 : after [0xD2, 0xF8] { base with aw := 0x80, cw := 7 } (fun t =>
    decide (t.aw = 0xFF ∧ t.psw.s ∧ t.psw.p ∧ ¬t.psw.cy)) = true := by decide
theorem test_rol_s23 : after [0xD2, 0xC0] { base with aw := 0x81, cw := 9 } (fun t =>
    decide (t.aw = 0x03 ∧ t.psw.cy)) = true := by decide
theorem test_ror_s25 : after [0xD0, 0xC8] { base with aw := 0x80 } (fun t =>
    decide (t.aw = 0x40 ∧ status t.psw = 0b100000)) = true := by decide
theorem test_rolc_s28 : after [0xD0, 0xD0] { base with psw := carry } (fun t =>
    decide (t.aw = 1 ∧ status t.psw = 0)) = true := by decide
theorem test_rorc_s33 : after [0xD3, 0xD8] { base with aw := 0xABCD, cw := 0x11, psw := carry } (fun t =>
    decide (t.aw = 0xABCD ∧ t.psw.cy)) = true := by decide

/-! ## Multiplication, division, adjustment, conversion (vectors M, E, J) -/

theorem test_mulu_m4 : after [0xF7, 0xE1] { base with aw := 0xFFFF, cw := 0xFFFF, dw := 0x1111 } (fun t =>
    decide (t.dw = 0xFFFE ∧ t.aw = 1 ∧ t.psw.v ∧ t.psw.cy)) = true := by decide
theorem test_mul_m9 : after [0xF6, 0xE9] { base with aw := 0xC0, cw := 2 } (fun t =>
    decide (t.aw = 0xFF80 ∧ ¬t.psw.v ∧ ¬t.psw.cy)) = true := by decide
theorem test_mul_m15 : after [0x6B, 0xC9, 0xFF] { base with cw := 0x8000 } (fun t =>
    decide (t.cw = 0x8000 ∧ t.psw.v ∧ t.psw.cy)) = true := by decide
theorem test_divu_m21 : after [0xF7, 0xF3] { base with dw := 0xFFFE, aw := 0xFFFF, bw := 0xFFFF } (fun t =>
    decide (t.dw = 0xFFFE ∧ t.aw = 0xFFFF)) = true := by decide
theorem test_div_m28 : after [0xF7, 0xF9] { base with aw := 0xFFDE, cw := 0xFFFE } (fun t =>
    decide (t.dw = 0 ∧ t.aw = 0x8011)) = true := by decide
theorem test_divide_error_e7 : after [0xF6, 0xF9] (poke 0 [0, 2, 0, 0x50] { base with aw := 0xFF80, cw := 1 })
    (fun t => decide (t.sp = 0xFA ∧ ¬t.psw.ie ∧ t.psw.md)) = true := by decide
theorem test_adj4a_j3 : after [0x27] { base with aw := 0xFF } (fun t =>
    decide (t.aw = 0x65 ∧ ¬t.psw.s ∧ ¬t.psw.z ∧ t.psw.ac ∧ t.psw.p ∧ t.psw.cy)) = true := by decide
theorem test_adj4s_j9 : after [0x2F] { base with aw := 5, psw := { Psw.reset with ac := true } } (fun t =>
    decide (t.aw = 0x9F ∧ t.psw.s ∧ ¬t.psw.z ∧ t.psw.ac ∧ t.psw.p ∧ t.psw.cy)) = true := by decide
theorem test_adjba_j12 : after [0x37] { base with aw := 0xFF1A } (fun t =>
    decide (t.aw = 0 ∧ t.psw.ac ∧ t.psw.cy)) = true := by decide
theorem test_adjbs_j16 : after [0x3F] { base with aw := 3, psw := { Psw.reset with ac := true } } (fun t =>
    decide (t.aw = 0xFF0D ∧ t.psw.ac ∧ t.psw.cy)) = true := by decide
theorem test_cvtbd_j19 : after [0xD4, 0x0A] { base with aw := 0xFF } (fun t =>
    decide (t.aw = 0x1905 ∧ ¬t.psw.s ∧ ¬t.psw.z ∧ t.psw.p)) = true := by decide
theorem test_cvtdb_j22 : after [0xD5, 0x0A] { base with aw := 0x1A09 } (fun t => decide (t.aw = 0x000D)) = true := by
  decide
theorem test_cvtbw_j24 : after [0x98] { base with aw := 0x1280 } (fun t => decide (t.aw = 0xFF80)) = true := by decide
theorem test_cvtwl_j26 : after [0x99] { base with aw := 0x8000, dw := 0x1234 } (fun t =>
    decide (t.aw = 0x8000 ∧ t.dw = 0xFFFF)) = true := by decide

/-! ## Packed BCD, nibbles, bit fields, bits (sections 2.6 to 2.9) -/

theorem test_add4s : after [0x0F, 0x20]
    (poke 0x40020 [0x38, 0xEE] (poke 0x30010 [0x45, 0xFF] { base with cw := 2, ix := 0x10, iy := 0x20 })) (fun t =>
    decide (Memory.read t.mem 0x40020 = 0x83 ∧ Memory.read t.mem 0x40021 = 0xEE ∧ ¬t.psw.z ∧ ¬t.psw.cy)) = true := by
  decide
theorem test_sub4s : after [0x0F, 0x22]
    (poke 0x30010 [1, 0] { base with cw := 4, ix := 0x10, iy := 0x20 }) (fun t =>
    decide (Memory.read t.mem 0x40020 = 0x99 ∧ Memory.read t.mem 0x40021 = 0x99 ∧ ¬t.psw.z ∧ t.psw.cy)) = true := by
  decide
theorem test_rol4 : after [0x0F, 0x28, 0xC3] { base with bw := 0x95, aw := 0x7703 } (fun t =>
    decide (t.bw = 0x53)) = true := by decide
theorem test_ror4 : after [0x0F, 0x2A, 0xC3] { base with bw := 0xAF, aw := 0x00FC } (fun t =>
    decide (t.bw = 0xCA)) = true := by decide
theorem test_ins_f6 : after [0x0F, 0x39, 0xC1, 0x0F] { base with cw := 0x0F, aw := 0xBEEF, iy := 0x20 } (fun t =>
    decide (t.readWord 0x4000 0x20 = 0x8000 ∧ t.readWord 0x4000 0x22 = 0x5F77 ∧ t.cw = 15 ∧ t.iy = 0x22)) = true := by
  decide
theorem test_ext_f10 : after [0x0F, 0x3B, 0xC1, 0x0C]
    (poke 0x30010 [0x55, 0x55, 0x33, 0x33] { base with cw := 8, aw := 0xFFFF, ix := 0x10 }) (fun t =>
    decide (t.aw = 0x1355 ∧ t.cw = 5 ∧ t.ix = 0x12)) = true := by decide
theorem test_test1_b3 : after [0x0F, 0x18, 0xC1, 0x0D] { base with cw := 0x20, psw := carry } (fun t =>
    decide (t.cw = 0x20 ∧ ¬t.psw.v ∧ ¬t.psw.z ∧ ¬t.psw.cy)) = true := by decide
theorem test_not1_b7 : after [0x0F, 0x16, 0xC1] { base with cw := 3 } (fun t =>
    decide (t.cw = 0x0B ∧ status t.psw = 0)) = true := by decide
theorem test_clr1_b9 : after [0x0F, 0x1B, 0xC0, 0x1F] { base with aw := 0xFFFF } (fun t =>
    decide (t.aw = 0x7FFF)) = true := by decide
theorem test_set1_b12 : after [0x0F, 0x1D, 0x46, 0x00, 0x09] { base with bp := 0x40 } (fun t =>
    decide (Memory.read t.mem 0x20040 = 0 ∧ Memory.read t.mem 0x20041 = 2)) = true := by decide

/-! ## Data transfer and block instructions (sections 2.10, 2.11) -/

theorem test_xch_memory : after [0x86, 0x07] (poke 0x30010 [0xA5] { base with bw := 0x10, aw := 0x5A }) (fun t =>
    decide (t.aw = 0xA5 ∧ Memory.read t.mem 0x30010 = 0x5A)) = true := by decide
theorem test_ldea_wraps : after [0x8D, 0x58, 0xFE] { base with bw := 1 } (fun t => decide (t.bw = 0xFFFF)) = true := by
  decide
theorem test_trans_wraps : after [0xD7] (poke 0x30010 [0x99] { base with bw := 0xFFF0, aw := 0x20 }) (fun t =>
    decide (t.aw = 0x99)) = true := by decide
theorem test_mov_ds0 : after [0xC5, 0x1F] (poke 0x30010 [0x78, 0x56, 0x34, 0x12] { base with bw := 0x10 }) (fun t =>
    decide (t.bw = 0x5678 ∧ t.ds0 = 0x1234)) = true := by decide
theorem test_mov_word_wraps : after [0x8B, 0x06, 0xFF, 0xFF]
    (poke 0x30000 [0x12] (poke 0x3FFFF [0x34] (poke 0x40000 [0x99] base))) (fun t => decide (t.aw = 0x1234)) = true := by
  decide
theorem test_mov_address_wraps : after [0xA1, 0x10, 0x00] (poke 0 [0xCD, 0xAB] { base with ds0 := 0xFFFF }) (fun t =>
    decide (t.aw = 0xABCD)) = true := by decide
theorem test_mov_psw_ah : after [0x9E] { base with aw := 0xFF00 } (fun t =>
    decide (status t.psw = 0b011111 ∧ ¬t.psw.dir ∧ ¬t.psw.ie ∧ ¬t.psw.brk ∧ t.psw.md)) = true := by decide
theorem test_movbk_wraps : after [0xA5]
    (poke 0x3FFFF [0x34] (poke 0x30000 [0x12] { base with ix := 0xFFFF, iy := 0xFFFE })) (fun t =>
    decide (t.readWord 0x4000 0xFFFE = 0x1234 ∧ t.ix = 1 ∧ t.iy = 0)) = true := by decide
theorem test_repe_cmpbk : after [0xA6]
    (poke 0x40020 [1, 2, 9] (poke 0x30010 [1, 2, 3]
      { base with cw := 5, ix := 0x10, iy := 0x20, pfx := { Prefixes.none with rep := some .rep, count := 1 } }))
    (fun t => decide (t.cw = 2 ∧ t.ix = 0x13 ∧ t.iy = 0x23 ∧ status t.psw = 0b010111 ∧ t.pfx = Prefixes.none)) =
    true := by decide
theorem test_repnc_cmpm : after [0xAE]
    (poke 0x40020 [1, 5, 6, 7]
      { base with cw := 4, aw := 5, iy := 0x20, pfx := { Prefixes.none with rep := some .repnc, count := 1 } })
    (fun t => decide (t.cw = 1 ∧ t.iy = 0x23 ∧ status t.psw = 0b010111)) = true := by decide
theorem test_rep_prefix : after [0xF3] base (fun t =>
    decide (t.pfx = { Prefixes.none with rep := some .rep, count := 1 } ∧ t.pc = 0x101)) = true := by decide
theorem test_rep_outm : after [0x6E]
    (poke 0x30010 [0x11, 0x22, 0x33]
      { base with cw := 3, ix := 0x10, dw := 0x80, pfx := { Prefixes.none with rep := some .rep, count := 1 } })
    (fun t => decide (t.ioOut = [(0x80, 0x33), (0x80, 0x22), (0x80, 0x11)] ∧ t.cw = 0 ∧ t.ix = 0x13)) = true := by
  decide
theorem test_inm_word : after [0x6D] { base with iy := 0x20, dw := 0x100, ioIn := [0x34, 0x12] } (fun t =>
    decide (t.readWord 0x4000 0x20 = 0x1234 ∧ t.iy = 0x22 ∧ t.ioIn = [])) = true := by decide

/-! ## Control transfer, stack, interrupts (sections 2.12, 2.13) -/

theorem test_push_sp : after [0x54] base (fun t => decide (t.sp = 0xFE ∧ t.readWord 0x2000 0xFE = 0x100)) = true := by
  decide
theorem test_pop_sp : after [0x5C] (poke 0x200FE [0x34, 0x12] { base with sp := 0xFE }) (fun t =>
    decide (t.sp = 0x1234)) = true := by decide
theorem test_push_wraps : after [0x50] { base with sp := 1, aw := 0xBEEF } (fun t =>
    decide (t.sp = 0xFFFF ∧ Memory.read t.mem 0x2FFFF = 0xEF ∧ Memory.read t.mem 0x20000 = 0xBE)) = true := by decide
theorem test_prepare : after [0xC8, 0x0A, 0x00, 0x03]
    (poke 0x201FC [0x22, 0x22, 0x11, 0x11] { base with bp := 0x200 }) (fun t =>
    decide (t.bp = 0xFE ∧ t.sp = 0xEE ∧ t.readWord 0x2000 0xFE = 0x200 ∧ t.readWord 0x2000 0xFC = 0x1111 ∧
      t.readWord 0x2000 0xFA = 0x2222 ∧ t.readWord 0x2000 0xF8 = 0xFE)) = true := by decide
theorem test_dispose : after [0xC9] (poke 0x200FE [0x00, 0x02] { base with sp := 0xEE, bp := 0xFE }) (fun t =>
    decide (t.sp = 0x100 ∧ t.bp = 0x200)) = true := by decide
theorem test_call_far : after [0x9A, 0x10, 0x00, 0x00, 0x20] base (fun t =>
    decide (t.ps = 0x2000 ∧ t.pc = 0x10 ∧ t.sp = 0xFC ∧ t.readWord 0x2000 0xFE = 0x1000 ∧
      t.readWord 0x2000 0xFC = 0x105)) = true := by decide
theorem test_ret_pop : after [0xC2, 0x08, 0x00] (poke 0x200FC [0x34, 0x12] { base with sp := 0xFC }) (fun t =>
    decide (t.pc = 0x1234 ∧ t.sp = 0x106)) = true := by decide
theorem test_br_wraps : after [0xEB, 0x7F] { base with pc := 0xFFF0 } (fun t => decide (t.pc = 0x71)) = true := by
  decide
theorem test_bgt_taken : after [0x7F, 0x10] { base with psw := { Psw.reset with s := true, v := true } } (fun t =>
    decide (t.pc = 0x112)) = true := by decide
theorem test_dbnz_wraps : after [0xE2, 0xFE] base (fun t => decide (t.cw = 0xFFFF ∧ t.pc = 0x100)) = true := by decide
theorem test_brk : after [0xCD, 0x10]
    (poke 0x40 [0x00, 0x02, 0x00, 0x50]
      { base with psw := { Psw.reset with ie := true, dir := true, z := true, cy := true } }) (fun t =>
    decide (t.readWord 0x2000 0xFE = 0xF643 ∧ t.readWord 0x2000 0xFC = 0x1000 ∧ t.readWord 0x2000 0xFA = 0x102 ∧
      t.ps = 0x5000 ∧ t.pc = 0x200 ∧ ¬t.psw.ie ∧ t.psw.dir ∧ t.psw.cy)) = true := by decide
theorem test_reti : after [0xCF] (poke 0x200FA [0x00, 0x03, 0x00, 0x60, 0xD5, 0x0F] { base with sp := 0xFA }) (fun t =>
    decide (t.ps = 0x6000 ∧ t.pc = 0x300 ∧ t.sp = 0x100 ∧ t.psw.md ∧ t.psw.dir ∧ t.psw.ie ∧ t.psw.brk ∧
      status t.psw = 0b111111)) = true := by decide
theorem test_chkind : after [0x62, 0x36, 0x10, 0x00]
    (poke 0x30010 [0x05, 0x00, 0x25, 0x00] (poke 0x14 [0x00, 0x05, 0x00, 0x50] { base with ix := 4 })) (fun t =>
    decide (t.ps = 0x5000 ∧ t.pc = 0x500 ∧ t.readWord 0x2000 0xFA = 0x104)) = true := by decide
theorem test_brkem : after [0x0F, 0xFF, 0x80] (poke 0x200 [0x00, 0x01, 0x00, 0x60] base) (fun t =>
    decide (t.ps = 0x6000 ∧ t.pc = 0x100 ∧ ¬t.psw.md ∧ t.mdWe ∧ t.readWord 0x2000 0xFE = 0xF002)) = true := by decide
theorem test_halt : after [0xF4] base (fun t => decide (t.halted ∧ t.pc = 0x101)) = true := by decide
theorem test_poll_waits : after [0x9B] { base with pins := { Inputs.idle with pollHigh := true } } (fun t =>
    decide (t.pc = 0x100)) = true := by decide
/-- R692: no state changes, so the queue keeps POLL and the bytes behind it. -/
theorem test_poll_keeps_queue : after [0x9B]
    { base with queue := [0x9B, 0x40, 0x41], pins := { Inputs.idle with pollHigh := true } } (fun t =>
    decide (t.pc = 0x100 ∧ t.queue = [0x9B, 0x40, 0x41])) = true := by decide
/-- R784: BUSLOCK before HALT is remembered in standby. -/
theorem test_buslock_halt : after [0xF4]
    { base with pfx := { Prefixes.none with lock := true, count := 1 } } (fun t =>
    decide (t.halted ∧ t.haltLock ∧ t.pfx = Prefixes.none)) = true := by decide
/-- R761, R53: in the window of EI a repeated block instruction takes no INT between its elements, and the window is over
after it; NMI is taken between elements (R760). -/
theorem test_ei_rep_movbk : after [0xA4]
    { base with
      cw := 2, pfx := { Prefixes.none with rep := some .rep, count := 1 }, inhibitInt := true
      psw := { Psw.reset with ie := true }, inputs := [{ Inputs.idle with intLevel := true }, Inputs.idle]
      pins := { Inputs.idle with intLevel := true } } (fun t =>
    decide (t.cw = 0 ∧ t.pc = 0x101 ∧ t.ix = 2 ∧ ¬t.inhibitInt)) = true := by decide
theorem test_window_nmi_rep_movbk : after [0xA4]
    { base with
      cw := 2, pfx := { Prefixes.none with rep := some .rep, count := 1 }, inhibitAll := true, nmiPending := true } (fun t =>
    decide (t.cw = 1 ∧ t.readWord 0x2000 0xFA = 0xFF ∧ ¬t.nmiPending)) = true := by decide
/-- Log entry 14: the same repeat prefix twice. -/
theorem test_rep_twice : after [0xF3]
    { base with pfx := { Prefixes.none with rep := some .rep, count := 1 } } (fun t =>
    decide (t.pfx.rep = some .rep ∧ t.pfx.count = 2)) = true := by decide
/-- R723 to R725: of what a given 8080 set does, only what an 8080 instruction reaches is kept. -/
theorem test_8080_reach :
    (match stepWith
        (some fun s => { s with
          aw := 0x1234, bp := 0x5678, sp := 0x9999, ds0 := 0x9999, halted := true, pc := s.pc + 1
          psw := { s.psw with md := true, v := true, cy := true }, mem := [(0x20000, 0x11), (0x30005, 0x22)] })
        { base with aw := 0xAB00, haltLock := true, psw := { Psw.reset with md := false } } with
    | .next t => decide (t.aw = 0xAB34 ∧ t.sp8080 = 0x5678 ∧ t.sp = 0x100 ∧ t.ds0 = 0x3000 ∧ t.halted ∧ ¬t.haltLock ∧
        t.pc = 0x101 ∧ ¬t.psw.md ∧ ¬t.psw.v ∧ t.psw.cy ∧ t.mem = [(0x30005, 0x22)] ∧ t.read8080 5 = 0x22)
    | _ => false) = true := by decide
theorem test_8080_absent : (match step { base with psw := { Psw.reset with md := false } } with
    | .refused r => decide (r = .unspecified8080)
    | _ => false) = true := by decide
theorem test_ei_holds_int : after [0xFB] { base with pins := { Inputs.idle with intLevel := true } } (fun t =>
    decide (t.pc = 0x101 ∧ t.psw.ie)) = true := by decide
theorem test_int_after_nop : after [0x90]
    { base with psw := { Psw.reset with ie := true }, inputs := [{ Inputs.idle with intLevel := true, intVector := 8 }] }
    (fun t => decide (t.sp = 0xFA ∧ ¬t.psw.ie ∧ t.readWord 0x2000 0xFA = 0x101)) = true := by decide
theorem test_single_step : after [0x90] { base with psw := { Psw.reset with brk := true } } (fun t =>
    decide (t.sp = 0xFA ∧ ¬t.psw.brk ∧ t.readWord 0x2000 0xFE = 0xF102)) = true := by decide
theorem test_reset_pin : (match step { base with pins := { Inputs.idle with reset := true }, halted := true } with
    | .next t => decide (t.ps = 0xFFFF ∧ t.pc = 0 ∧ ¬t.halted ∧ t.psw.md ∧ ¬t.psw.ie)
    | _ => false) = true := by decide

/-! ## States and operands that meet the hypotheses of the statements

One theorem for each statement with hypotheses; its clauses at the boundaries of their ranges. -/

/-- A machine whose memory lists bytes; the hypothesis of every statement about a store. -/
def stored : State := poke 0x2000E [0x10, 0x20, 0x30] (poke 0 [0, 2, 0, 0x50] { base with sp := 0x10 })

theorem witness_memory : Memory.wf stored.mem = true ∧ Memory.wf (poke 0xFFFFF [1] stored).mem = true := by decide

/-- Every flag set. -/
def allSet : Psw := Psw.ofImage 0xFFFF

theorem witness_DecodeOfEncodeIsTheInstruction :
    (Instr.movMemImm .byte (.direct 0xFFFF) 0xFF).wf = true ∧ (Instr.addRegImm .w83 .al_aw 0xFF).wf = true ∧
      (Instr.retem).wf = true := by decide

theorem witness_DecodedInstructionsAreWellFormed :
    decode true [0x90] = .ok (.nop, []) ∧ decode false [0xED, 0xFD, 0] = .ok (.retem, [0]) := ⟨rfl, rfl⟩

theorem witness_AddressesAndWordsInSegments :
    Memory.wf stored.mem = true ∧ (phys 0xFFFF 0xFFFF).toNat = 0x0FFEF := by decide

theorem witness_EffectiveAddressAndSegment :
    base.pfx.seg = none ∧ (AddrForm.bp = .bp_ix ∨ AddrForm.bp = .bp_iy ∨ AddrForm.bp = .bp) ∧
      ¬(AddrForm.bw = .bp_ix ∨ AddrForm.bw = .bp_iy ∨ AddrForm.bw = .bp) ∧
      { base with pfx := { Prefixes.none with seg := some .ps, count := 1 } }.pfx.seg = some .ps := by decide

theorem witness_MovesWithoutSegmentRegisters : Memory.wf stored.mem = true := by decide

theorem witness_MovesOfSegmentRegistersAndPointers :
    Memory.wf stored.mem = true ∧ Sreg.ds1 ≠ .ps ∧ Sreg.ss ≠ .ps ∧ Sreg.ds0 ≠ .ps := by decide

theorem witness_ExchangesSwapTheOperands : Memory.wf stored.mem = true ∧ Reg.bh_iy ≠ .al_aw := by decide

theorem witness_AdditionsAndSubtractionsInMemory : Memory.wf stored.mem = true := by decide

theorem witness_BranchesAfterCompareDecideTheOrder :
    ∃ t, exec (.cmpRegReg .byte .al_aw .bl_bw) { base with aw := 0x80, bw := 0x7F } = .next t := ⟨_, rfl⟩

/-- Two strings of 127 bytes far apart: memory that lists nothing holds the digit 0 everywhere. -/
theorem zeroStrings_apart (s : State) (h1 : s.ds1 = 0x4000) (h0 : s.ds0 = 0x3000)
    (hx : s.ix = 0x10) (hy : s.iy = 0x20) (hp : s.pfx.seg = none) : s.BcdApart := by
  intro j k hj hk h
  have := congrArg BitVec.toNat h
  rw [phys_toNat, phys_toNat] at this
  simp [State.overridden, hp, State.getSreg, h1, h0, hx, hy] at this
  omega

/-- Digits of memory that lists nothing. -/
theorem zeroStrings_digits (s : State) (h : s.mem = []) (h1 : 1 ≤ s.cl.toNat) (h2 : s.cl.toNat ≤ 254) :
    s.BcdOperands := by
  refine ⟨h1, h2, fun k _ => ?_⟩
  simp [bcdNibble, State.bcdDestAt, State.bcdSourceAt, State.readByte, h, Memory.read, Memory.unlisted]

theorem witness_BcdStringsAddAndSubtract :
    let low : State := { base with cw := 1, ix := 0x10, iy := 0x20 }
    let high : State := { base with cw := 254, ix := 0x10, iy := 0x20 }
    (Memory.wf low.mem = true ∧ low.BcdOperands ∧ low.BcdApart) ∧
      (Memory.wf high.mem = true ∧ high.BcdOperands ∧ high.BcdApart) :=
  ⟨⟨rfl, zeroStrings_digits _ rfl (by decide) (by decide), zeroStrings_apart _ rfl rfl rfl rfl rfl⟩,
    ⟨rfl, zeroStrings_digits _ rfl (by decide) (by decide), zeroStrings_apart _ rfl rfl rfl rfl rfl⟩⟩

theorem witness_BcdStringsCompareAndChangeNoMore : { base with cw := 254 }.BcdOperands :=
  zeroStrings_digits _ rfl (by decide) (by decide)

theorem witness_NibbleRotations : Memory.wf stored.mem = true ∧ Reg.ah_sp ≠ .al_aw := by decide

theorem witness_IncrementAndDecrementKeepCarry : Memory.wf stored.mem = true := by decide

/-- The machine with dividends in AW and DW:AW and with a divisor in CW and at DS0:0010H. -/
def dividing (dw aw cw : Word) : State :=
  poke 0x30010 [loByte cw, hiByte cw] { base with dw := dw, aw := aw, cw := cw }

/-- The greatest and least quotients that fit. -/
theorem witness_DivisionsGiveQuotientAndRemainder :
    let u8 : State := dividing 0 0x00FF 1
    let u16 : State := dividing 0 0xFFFF 1
    let p8 : State := dividing 0 0x007F 1
    let n8 : State := dividing 0 0xFF81 1
    let p16 : State := dividing 0 0x7FFF 1
    let n16 : State := dividing 0xFFFF 0x8001 1
    let dwaw (s : State) : BitVec 32 := s.dw ++ s.aw
    (∀ s ∈ [u8, u16, p8, n8, p16, n16], s.getReg8 .cl_cw = 1 ∧ s.readOperand .byte (.direct 0x10) = 1 ∧
        s.getReg16 .cl_cw = 1 ∧ s.readOperand .word (.direct 0x10) = 1) ∧
      u8.aw.toNat / (1 : Byte).toNat = 0xFF ∧ (dwaw u16).toNat / (1 : Word).toNat = 0xFFFF ∧
      p8.aw.toInt.tdiv (1 : Byte).toInt = 127 ∧ n8.aw.toInt.tdiv (1 : Byte).toInt = -127 ∧
      (dwaw p16).toInt.tdiv (1 : Word).toInt = 32767 ∧ (dwaw n16).toInt.tdiv (1 : Word).toInt = -32767 := by decide

/-- A divisor of 0, and the quotients next to those that fit. -/
theorem witness_DivideErrorEntersVectorZero :
    let zero : State := dividing 0 0x1234 0
    let u8 : State := dividing 0 0x0100 1
    let u16 : State := dividing 1 0x0000 1
    let p8 : State := dividing 0 0x0080 1
    let n8 : State := dividing 0 0xFF80 1
    let p16 : State := dividing 0 0x8000 1
    let n16 : State := dividing 0xFFFF 0x8000 1
    let dwaw (s : State) : BitVec 32 := s.dw ++ s.aw
    (∀ s ∈ [zero, u8, u16, p8, n8, p16, n16], Memory.wf s.mem = true) ∧ zero.getReg8 .cl_cw = 0 ∧
      zero.getReg16 .cl_cw = 0 ∧ zero.readOperand .byte (.direct 0x10) = 0 ∧
      zero.readOperand .word (.direct 0x10) = 0 ∧
      (∀ s ∈ [u8, u16, p8, n8, p16, n16], s.getReg8 .cl_cw = 1 ∧ s.readOperand .byte (.direct 0x10) = 1 ∧
        s.getReg16 .cl_cw = 1 ∧ s.readOperand .word (.direct 0x10) = 1) ∧
      u8.aw.toNat / (1 : Byte).toNat = 0x100 ∧ (dwaw u16).toNat / (1 : Word).toNat = 0x10000 ∧
      p8.aw.toInt.tdiv (1 : Byte).toInt = 128 ∧ n8.aw.toInt.tdiv (1 : Byte).toInt = -128 ∧
      (dwaw p16).toInt.tdiv (1 : Word).toInt = 32768 ∧ (dwaw n16).toInt.tdiv (1 : Word).toInt = -32768 := by decide

/-- The low digits 9 and 10, and AC. -/
theorem witness_DecimalAdjustments :
    let low (s : State) : Bool := decide (9 < s.aw.toNat % 256 % 16) || s.psw.ac
    low { base with aw := 0xF9 } = false ∧ low { base with aw := 0x0A } = true ∧
      low { base with aw := 0x00, psw := allSet } = true := by decide

theorem witness_AddThenAdjustIsDecimal :
    let s : State := { base with aw := 0x99, bw := 0x99 }
    Reg.bl_bw ≠ .al_aw ∧ (s.getReg8 .al_aw).toNat % 16 ≤ 9 ∧ (s.getReg8 .al_aw).toNat / 16 ≤ 9 ∧
      (s.getReg8 .bl_bw).toNat % 16 ≤ 9 ∧ (s.getReg8 .bl_bw).toNat / 16 ≤ 9 ∧
      ∃ t, exec (.addRegReg .byte .al_aw .bl_bw) s = .next t ∧ ∃ u, exec .adj4a t = .next u :=
  ⟨by decide, by decide, by decide, by decide, by decide, _, rfl, _, rfl⟩

theorem witness_LogicalOperations : Memory.wf stored.mem = true := by decide
theorem witness_ComplementAndNegate : Memory.wf stored.mem = true := by decide
theorem witness_BitsOfOperandsChanged : Memory.wf stored.mem = true := by decide
theorem witness_SingleShiftsAndRotates : Memory.wf stored.mem = true := by decide
theorem witness_CountedShiftsAndRotates : Memory.wf stored.mem = true := by decide

/-- The least and the greatest offset and length, in one word and across two. -/
theorem witness_BitFields :
    let low : State := stored
    let high : State := { stored with cw := 0x0F0F }
    Memory.wf stored.mem = true ∧ (low.getReg8 .cl_cw).toNat = 0 ∧ (low.getReg8 .ch_bp).toNat = 0 ∧
      (high.getReg8 .cl_cw).toNat = 15 ∧ (high.getReg8 .ch_bp).toNat = 15 ∧
      (∀ r ∈ [Reg.cl_cw, .ch_bp, .dl_dw], r ≠ .al_aw ∧ r ≠ .ah_sp) := by decide

theorem witness_BlockInstructionsDoOneElement : Memory.wf stored.mem = true ∧ stored.pfx.rep = none := by decide

/-- A state in which a repeat prefix has been read. -/
def repeated (r : Rep) (n : Word) : State :=
  { stored with cw := n, pfx := { Prefixes.none with rep := some r, count := 1 } }

theorem witness_RepeatRunsElementByElement :
    (repeated .rep 0).Undisturbed ∧ (repeated .repne 0xFFFF).Undisturbed ∧ (repeated .repne 0xFFFF).pfx.rep = some .repne ∧
      Instr.outm .byte ∈ [.movbk .byte, .ldm .byte, .stm .byte, .inm .byte, .outm .byte] ∧
      Instr.cmpm .word ∈ [.cmpbk .word, .cmpm .word] :=
  ⟨⟨rfl, rfl, rfl, rfl, rfl⟩, ⟨rfl, rfl, rfl, rfl, rfl⟩, rfl, by decide, by decide⟩

/-- INT high with IE = 1 in the window of EI, and in that of a segment register. -/
theorem witness_UndisturbedInWindow :
    let s : State := { repeated .rep 2 with psw := allSet, pins := { Inputs.idle with intLevel := true } }
    { s with inhibitInt := true }.Undisturbed ∧ { s with inhibitAll := true }.Undisturbed :=
  ⟨⟨rfl, rfl, rfl, rfl, rfl⟩, ⟨rfl, rfl, rfl, rfl, rfl⟩⟩

/-- NMI pending, and INT high with IE = 1; a transfer, and a comparison of equal elements under REPE. -/
theorem witness_RepeatStopsBetweenElements :
    let s : State := { repeated .rep 2 with nmiPending := true }
    let i : State := { repeated .rep 2 with psw := allSet, pins := { Inputs.idle with intLevel := true } }
    (s.pfx.rep = some .rep ∧ 2 ≤ s.cw.toNat ∧ s.inputs = [] ∧ s.prefetchPlan = [] ∧ s.nmiPending = true ∧
        i.intAcceptable = true) ∧
      (∃ u, RunsElements (.movbk .byte) 1 s u) ∧ (∃ u, RunsElements (.movbk .byte) 1 i u) ∧
      ∃ u, RunsElements (.cmpbk .byte) 1 s u ∧ ¬RepeatEnds .rep u.psw :=
  ⟨by decide, ⟨_, _, rfl, rfl⟩, ⟨_, _, rfl, rfl⟩, _, ⟨_, rfl, rfl⟩, fun h => absurd (show _ = false from h) (by decide)⟩

/-- Each condition true and false; CW at 0, 1 and 2. -/
theorem witness_ConditionalBranches :
    (allSet.v = true ∧ allSet.cy = true ∧ allSet.z = true ∧ allSet.s = true ∧ allSet.p = true) ∧
      (base.psw.v = false ∧ base.psw.cy = false ∧ base.psw.z = false ∧ base.psw.s = false ∧ base.psw.p = false) ∧
      ({ base.psw with s := true }.s ≠ { base.psw with s := true }.v) ∧
      ((0 : Word).toNat ≠ 1 ∧ (2 : Word).toNat ≠ 1 ∧ ¬(1 : Word).toNat ≠ 1 ∧ (0 : Word).toNat = 0) := by decide

theorem witness_CallsPushTheReturnAddress : Memory.wf stored.mem = true := by decide
theorem witness_PushesStoreBelowTheStackPointer : Memory.wf stored.mem = true := by decide
theorem witness_PopsLoadFromTheStackPointer : Memory.wf stored.mem = true ∧ Sreg.ss ≠ .ps := by decide
theorem witness_RegisterSetPushedAndPopped : Memory.wf stored.mem = true := by decide

/-- Levels 0 and 255, and a level of 2 whose source words lie above the frame. -/
theorem witness_PrepareAndDispose :
    let s : State := { base with bp := 0x200 }
    Memory.wf s.mem = true ∧ (0 : Byte).toNat = 0 ∧ 0 < (255 : Byte).toNat ∧
      (∀ j k, j < 4 → k < 6 → s.bp - 4 + BitVec.ofNat 16 j ≠ s.sp - 2 - 4 + BitVec.ofNat 16 k) ∧
      (∃ t, exec (.prepare 0xFFFF 0) s = .next t) ∧ ∃ t, exec (.prepare 0 255) s = .next t := by
  refine ⟨by decide, by decide, by decide, fun j k hj hk => ?_, ⟨_, rfl⟩, _, rfl⟩
  simp only [base, State.reset]
  bv_omega

/-- V set and clear; an index at its two limits, below and above them. -/
theorem witness_SoftwareBreaksAndChkind :
    let s (ix : Word) : State := poke 0x30010 [0xFE, 0xFF, 0x05, 0x00] { base with ix := ix }
    let index (ix : Word) : Int := ((s ix).getReg16 .dh_ix).toInt
    let lower : Int := ((s 0).readWord ((s 0).segOf (.direct 0x10)) ((s 0).ea (.direct 0x10))).toInt
    let upper : Int := ((s 0).readWord ((s 0).segOf (.direct 0x10)) (BitVec.ofNat 16 (0x10 + 2))).toInt
    Memory.wf (s 0).mem = true ∧ allSet.v = true ∧ base.psw.v = false ∧
      (lower = index 0xFFFE ∧ index 0xFFFE ≤ upper) ∧ (lower ≤ index 5 ∧ index 5 = upper) ∧
      index 0xFFFD < lower ∧ upper < index 6 := by decide

theorem witness_RetiReturnsFromAnInterrupt :
    Memory.wf stored.mem = true ∧ stored.psw.md = true ∧ { stored with mdWe := true }.mdWe = true := by decide

theorem witness_EmulationModeEntriesAndReturns :
    Memory.wf stored.mem = true ∧ stored.mdWe = false ∧ { stored with mdWe := true }.mdWe = true := by decide

theorem witness_NativeModeIsLeftByBrkemAlone :
    stored.psw.md = true ∧ stored.mdWe = false ∧ (∀ n, Instr.popPsw ≠ .brkem n) ∧ Instr.popPsw ≠ .retem ∧
      ∃ t, exec .popPsw stored = .next t := ⟨rfl, rfl, nofun, nofun, _, rfl⟩

/-- Each of the four instructions sets IE somewhere. -/
theorem witness_InterruptsAreEnabledByFourInstructions :
    let s : State := poke 0x20010 [0xFF, 0xFF] { base with sp := 0x10 }
    let u : State := poke 0x20014 [0xFF, 0xFF] { base with sp := 0x10 }
    s.psw.ie = false ∧ u.psw.ie = false ∧ (∃ t, exec .ei s = .next t ∧ t.psw.ie = true) ∧
      (∃ t, exec .popPsw s = .next t ∧ t.psw.ie = true) ∧ (∃ t, exec .reti u = .next t ∧ t.psw.ie = true) ∧
      ∃ t, exec .retem u = .next t ∧ t.psw.ie = true :=
  ⟨rfl, rfl, ⟨_, rfl, by decide⟩, ⟨_, rfl, by decide⟩, ⟨_, rfl, by decide⟩, _, rfl, by decide⟩

theorem witness_CpuControlInstructions :
    base.pins.pollHigh = false ∧ { Inputs.idle with pollHigh := true }.pollHigh = true := by decide

theorem witness_PrefixesAreHeld :
    base.pfx.rep = none ∧ (repeated .rep 1).pfx.rep = some .rep ∧ (repeated .rep 1).pfx.rep ≠ some .repc := by decide

theorem witness_EveryOtherInstructionCompletes :
    exec .repc (repeated .rep 1) = .refused .repeatCombination ∧
      exec (.brkem 0) { base with mdWe := true } = .refused .brkemNested := ⟨rfl, rfl⟩

theorem witness_EmulationReach : Memory.wf (stored.after8080 base).mem = true ∧ Memory.wf stored.mem = true := by decide

theorem witness_StepRuns8080 :
    let s : State := { base with psw := { Psw.reset with md := false } }
    s.pins.reset = false ∧ s.halted = false ∧ s.psw.md = false ∧
      ¬(s.fetchByte 0 = 0xED ∧ (s.fetchByte 1 = 0xED ∨ s.fetchByte 1 = 0xFD)) := by decide

/-- A prefix byte, an instruction of one byte and one of six, between two instructions and after a prefix. -/
theorem witness_StepRunsTheDecodedInstruction :
    let i : Instr := .movMemImm .word (.direct 0x1234) 0x5678
    let s : State := storeBytes [0xC7, 0x06, 0x34, 0x12, 0x78, 0x56] 0x100 base
    let p : State := storeBytes [0xF3] 0xFFFF { repeated .rep 1 with pc := 0xFFFF }
    (s.pins.reset = false ∧ s.halted = false ∧ s.queue = [] ∧ s.prefetchPlan = [] ∧ i.wf = true ∧
        i.nativeMode = s.psw.md ∧ repeatAllowed s.pfx.rep i = true ∧
        ∀ k, k < (encode i).length →
          (encode i)[k]? = some (s.readByte s.ps (BitVec.ofNat 16 (s.pc.toNat + k)))) ∧
      (p.pins.reset = false ∧ p.halted = false ∧ p.queue = [] ∧ p.prefetchPlan = [] ∧ Instr.rep.wf = true ∧
        Instr.rep.nativeMode = p.psw.md ∧ repeatAllowed p.pfx.rep .rep = true ∧
        ∀ k, k < (encode .rep).length →
          (encode .rep)[k]? = some (p.readByte p.ps (BitVec.ofNat 16 (p.pc.toNat + k)))) := by decide

/-- Reset, an inhibit window, NMI, INT with IE = 1, INT kept out by IE or by EI, and none. -/
theorem witness_BoundaryAcceptsAtMostOne :
    let int : Inputs := { Inputs.idle with intLevel := true }
    Memory.wf stored.mem = true ∧ stored.suspended = false ∧ stored.inputs = [] ∧ stored.pins.reset = false ∧
      stored.inhibitAll = false ∧ stored.nmiPending = false ∧ stored.pins.intLevel = false ∧
      { Inputs.idle with reset := true }.reset = true ∧ { stored with inhibitAll := true }.inhibitAll = true ∧
      { stored with nmiPending := true }.nmiPending = true ∧ int.intLevel = true ∧ int.reset = false ∧
      allSet.ie = true ∧ stored.psw.ie = false ∧ { stored with inhibitInt := true }.inhibitInt = true := by decide

theorem witness_StandbyEndsByNmiOrInt :
    let s : State := { stored with halted := true }
    let int : Inputs := { Inputs.idle with intLevel := true }
    Memory.wf s.mem = true ∧ s.halted = true ∧ s.pins.reset = false ∧ s.inputs = [] ∧ s.nmiPending = false ∧
      s.pins.intLevel = false ∧ { s with nmiPending := true }.nmiPending = true ∧ int.intLevel = true ∧
      int.reset = false ∧ allSet.ie = true ∧ s.psw.ie = false := by decide

theorem witness_ResetForcesTheInitialState :
    let s : State := { stored with halted := true, pins := { Inputs.idle with reset := true } }
    s.pins.reset = true ∧ s.inputs = [] := by decide

theorem witness_StepKeepsTheInvariant : stored.Inv ∧ ∃ t, step { stored with halted := true } = .next t :=
  ⟨⟨by decide, Nat.zero_le _, Nat.zero_le _, fun _ => rfl, rfl⟩, _, rfl⟩

end Sys2Proof.Tests
end

section
/-! SUPPORT. What an instruction does to the part of the state that the invariant, the mode and the interrupt enable
flag speak of: a preorder on states that every named operation of the model respects, and with it every instruction but
five. -/

namespace Sys2Proof.Machine

/-! ## The preorder -/

/-- The memory is canonical and neither queue is longer than the depth (R51, R80): the part of `State.Inv` that
instructions keep. -/
structure State.Sound (s : State) : Prop where
  mem : Memory.wf s.mem = true
  queue : s.queue.length ≤ Config.queueBytes
  queueBefore : s.queueBefore.length ≤ Config.queueBytes

/-- The native mode with MD write-protected (R54). -/
def State.NativeLocked (s : State) : Prop := s.psw.md = true ∧ s.mdWe = false

/-- From `s` to `t` the machine stays sound, does not leave a write-protected native mode, and does not enable
interrupts. -/
structure Ordinary (s t : State) : Prop where
  sound : s.Sound → t.Sound
  native : s.NativeLocked → t.NativeLocked
  masked : s.psw.ie = false → t.psw.ie = false

/-- The next state, if the result has one, comes about in the ordinary way. -/
def Ordinarily (s : State) (r : Result) : Prop := ∀ t, r = .next t → Ordinary s t

namespace Ordinary

variable {s t u : State}

theorem refl : Ordinary s s := ⟨id, id, id⟩

theorem trans (h : Ordinary s t) (g : Ordinary t u) : Ordinary s u :=
  ⟨g.sound ∘ h.sound, g.native ∘ h.native, g.masked ∘ h.masked⟩

/-! ## Registers, latches and pins -/

/-- Everything but memory, the two queues, the PSW and the write enable of MD may be anything. -/
theorem others {aw bw cw dw sp bp ix iy ps ss ds0 ds1 pc : Word} {nmi inhAll inhInt halted lock susp : Bool}
    {pfx : Prefixes} {plan : List Nat} {pins : Inputs} {inputs : List Inputs} {ioIn : List Byte} {ioCtr freeCtr : Nat}
    {ioOut : List (Word × Byte)} (h : Ordinary s t) :
    Ordinary s
      { aw, bw, cw, dw, sp, bp, ix, iy, ps, ss, ds0, ds1, pc, psw := t.psw, mdWe := t.mdWe, nmiPending := nmi
        inhibitAll := inhAll, inhibitInt := inhInt, halted, haltLock := lock, suspended := susp, pfx, queue := t.queue
        prefetchPlan := plan, queueBefore := t.queueBefore, pins, inputs, ioIn, ioCtr, ioOut, freeCtr, mem := t.mem } :=
  ⟨fun hs => ⟨(h.sound hs).mem, (h.sound hs).queue, (h.sound hs).queueBefore⟩, h.native, h.masked⟩

theorem setReg8 {r : Reg} {v : Byte} (h : Ordinary s t) : Ordinary s (t.setReg8 r v) := by
  cases r <;> exact h.others

theorem setReg16 {r : Reg} {v : Word} (h : Ordinary s t) : Ordinary s (t.setReg16 r v) := by
  cases r <;> exact h.others

theorem setReg {w : Width} {r : Reg} {v : BitVec w.bits} (h : Ordinary s t) : Ordinary s (t.setReg w r v) := by
  cases w
  · exact h.setReg8
  · exact h.setReg16

theorem setSreg {sr : Sreg} {v : Word} (h : Ordinary s t) : Ordinary s (t.setSreg sr v) := by
  cases sr <;> exact h.others

theorem popReg {r : Reg} (h : Ordinary s t) : Ordinary s (t.popReg r) := setReg16 h.others

/-! ## Flags -/

theorem flags {e : FlagEffect} (h : Ordinary s t) : Ordinary s (t.flags e) :=
  h.trans ⟨fun ⟨m, q, b⟩ => ⟨m, q, b⟩, id, id⟩

/-- The flags may be any as long as MD is not cleared and IE is not set. -/
theorem psw {f : Psw} (h : Ordinary s t) (hmd : t.psw.md = true → f.md = true)
    (hie : t.psw.ie = false → f.ie = false) : Ordinary s { t with psw := f } :=
  h.trans ⟨fun ⟨m, q, b⟩ => ⟨m, q, b⟩, fun ⟨hm, hw⟩ => ⟨hmd hm, hw⟩, hie⟩

/-! ## Memory and stack -/

theorem writeByte {seg off : Word} {v : Byte} (h : Ordinary s t) : Ordinary s (t.writeByte seg off v) :=
  h.trans ⟨fun ⟨m, q, b⟩ => ⟨State.writeByte_wf m seg off v, q, b⟩, id, id⟩

theorem writeWord {seg off v : Word} (h : Ordinary s t) : Ordinary s (t.writeWord seg off v) :=
  h.writeByte.writeByte

theorem writeMem {w : Width} {seg off : Word} {v : BitVec w.bits} (h : Ordinary s t) :
    Ordinary s (t.writeMem w seg off v) := by
  cases w
  · exact h.writeByte
  · exact h.writeWord

theorem writeOperand {w : Width} {m : Mem} {v : BitVec w.bits} (h : Ordinary s t) :
    Ordinary s (t.writeOperand w m v) := h.writeMem

theorem push {v : Word} (h : Ordinary s t) : Ordinary s (t.push v) := writeWord h.others

theorem pushFrame (h : Ordinary s t) : Ordinary s t.pushFrame := h.push.push.push

theorem copyDisplay {n : Nat} (h : Ordinary s t) : Ordinary s (State.copyDisplay n t) := by
  induction n generalizing t with
  | zero => exact h
  | succ n ih => exact ih (push h.others)

/-! ## Control transfer -/

theorem jump {target : Word} (h : Ordinary s t) : Ordinary s (t.jump target) :=
  h.trans ⟨fun ⟨m, _, b⟩ => ⟨m, Nat.zero_le _, b⟩, id, id⟩

theorem jumpFar {seg off : Word} (h : Ordinary s t) : Ordinary s (t.jumpFar seg off) :=
  h.trans ⟨fun ⟨m, _, b⟩ => ⟨m, Nat.zero_le _, b⟩, id, id⟩

theorem enterVector {n : Byte} (h : Ordinary s t) : Ordinary s (t.enterVector n) := h.jumpFar

theorem branchIf {c : Bool} {disp : Byte} (h : Ordinary s t) : Ordinary s (t.branchIf c disp) := by
  cases c
  · exact h
  · exact h.jump

/-- The entry of an interrupt sets MD and clears IE (R750). -/
theorem interrupt {n : Byte} (h : Ordinary s t) : Ordinary s (t.interrupt n) :=
  enterVector (h.pushFrame.psw (fun _ => rfl) fun _ => rfl)

/-! ## Queue, pins and ports -/

theorem prefetch (h : Ordinary s t) : Ordinary s t.prefetch := by
  refine h.trans ?_
  unfold State.prefetch
  split
  · exact refl
  · refine ⟨fun ⟨m, q, b⟩ => ⟨m, ?_, b⟩, id, id⟩
    simp only [List.length_append, State.programBytes, List.length_map, List.length_range]
    omega

theorem sample (h : Ordinary s t) : Ordinary s t.sample := by
  unfold State.sample
  split
  · exact h
  · exact h.others

theorem ioWrite {w : Width} {port : Word} {v : BitVec w.bits} (h : Ordinary s t) :
    Ordinary s (t.ioWrite w port v) := by
  cases w <;> exact h.others

theorem inAcc {w : Width} {port : Word} (h : Ordinary s t) : Ordinary s (t.inAcc w port) := by
  simp only [State.inAcc, State.ioRead_spec]
  exact setReg h.others

/-- POLL puts back a queue that was the machine's (R692). -/
theorem retryOneByte (h : Ordinary s t) : Ordinary s t.retryOneByte :=
  h.trans ⟨fun ⟨m, _, b⟩ => ⟨m, b, b⟩, id, id⟩

/-! ## Block instructions -/

/-- The repeat loop does what its elements do, and samples, prefetches and stops besides (R241, R768). -/
theorem blockLoop {elem : State → State} {r : Rep} {c : Bool} {n : Nat} (he : ∀ x, Ordinary x (elem x))
    (h : Ordinary s t) : Ordinary s (blockLoop elem r c n t) := by
  induction n generalizing t with
  | zero => exact h
  | succ n ih =>
    have ht : Ordinary s (elem t).decCw := (h.trans (he t)).others
    unfold Machine.blockLoop
    dsimp only
    split
    · exact ht
    · split
      · exact ht.prefetch.sample.trans ⟨fun ⟨m, _, b⟩ => ⟨m, Nat.zero_le _, b⟩, id, id⟩
      · exact ih ht.prefetch.sample

theorem block {elem : State → State} {c : Bool} (he : ∀ x, Ordinary x (elem x)) : Ordinary s (s.block elem c) := by
  unfold State.block
  split
  · exact he s
  · exact refl.blockLoop he

/-! ## Strings and fields -/

theorem bcdLoop {sub store : Bool} {n : Nat} {i : Word} {r : BcdRun} (h : Ordinary s r.state) :
    Ordinary s (bcdLoop sub store n i r).state := by
  induction n generalizing i r with
  | zero => exact h
  | succ n ih =>
    refine ih ?_
    dsimp only
    split
    · exact h.writeByte
    · exact h

theorem freeString {n : Nat} {i : Word} (h : Ordinary s t) : Ordinary s (freeString n i t) := by
  induction n generalizing i t with
  | zero => exact h
  | succ n ih => exact ih (others h.writeByte)

theorem freeTopNibble (h : Ordinary s t) : Ordinary s t.freeTopNibble := others h.writeByte

theorem bcdString {sub store : Bool} : Ordinary s (s.bcdString sub store) := by
  have hl : Ordinary s (Machine.bcdLoop sub store s.bcdBytes 0 { state := s, carry := 0, zero := true }).state :=
    bcdLoop refl
  unfold State.bcdString
  dsimp only
  split
  · split
    · exact hl.freeTopNibble.flags
    · exact hl.flags
  · split
    · exact refl.freeString.flags
    · exact refl.flags

theorem setAlDigit {d : BitVec 4} (h : Ordinary s t) : Ordinary s (t.setAlDigit d) := others (setReg8 h)

theorem rotateDigitReg {r : Reg} {operand : Byte} {d : BitVec 4} : Ordinary s (s.rotateDigitReg r operand d) := by
  unfold State.rotateDigitReg
  split
  · exact others (setReg8 refl)
  · exact refl.setReg8.setAlDigit

theorem insertBits {r : Reg} {len : Byte} : Ordinary s (s.insertBits r len) := by
  unfold State.insertBits
  dsimp only
  split
  · split
    · exact flags (others (setReg8 (writeWord refl)))
    · exact flags (others (setReg8 (writeWord (writeWord refl))))
  · exact flags (others (setReg8 (writeWord (writeWord refl))))

theorem extractBits {r : Reg} {len : Byte} {ok : Bool} : Ordinary s (s.extractBits r len ok) := by
  unfold State.extractBits
  dsimp only
  split <;> exact flags (others (setReg8 (others refl)))

/-! ## Division -/

theorem divideError8 : Ordinary s s.divideError8 := interrupt (others (others (flags refl)))

theorem divideError16 : Ordinary s s.divideError16 := interrupt (others (others (others (others (flags refl)))))

theorem divu8 {d : Byte} : Ordinary s (s.divu8 d) := by
  unfold State.divu8
  split
  · exact divideError8
  · exact flags (others refl)

theorem divu16 {d : Word} : Ordinary s (s.divu16 d) := by
  unfold State.divu16
  split
  · exact divideError16
  · exact flags (others refl)

theorem div8 {d : Byte} : Ordinary s (s.div8 d) := by
  unfold State.div8
  split
  · exact divideError8
  · exact flags (others refl)

theorem div16 {d : Word} : Ordinary s (s.div16 d) := by
  unfold State.div16
  split
  · exact divideError16
  · exact flags (others refl)

end Ordinary

/-! ## Instructions -/

theorem Ordinarily.next {s t : State} (h : Ordinary s t) : Ordinarily s (.next t) := by
  rintro u ⟨⟩
  exact h

theorem Ordinarily.refused {s : State} {r : Refusal} : Ordinarily s (.refused r) := by
  rintro t ⟨⟩

theorem Ordinarily.repeatPrefix {s : State} {r : Rep} : Ordinarily s (s.repeatPrefix r) := by
  unfold State.repeatPrefix
  split
  · exact .next (.others .refl)
  · exact .refused

/-- The five instructions that can set IE, clear MD or change its write enable: EI, BRKEM, and the three that take the
PSW from the stack (R646, R674, R675, R693, R728). -/
def setsControl : Instr → Bool
  | .ei | .brkem _ | .popPsw | .reti | .retem => true
  | _ => false

open Ordinary in
/-- Every instruction but those five is ordinary: each meaning is made of operations that are. -/
theorem exec_ordinarily (i : Instr) (s : State) (hi : setsControl i = false) : Ordinarily s (exec i s) := by
  cases i with
  | ei | brkem | popPsw | reti | retem => cases hi
  | movRegReg | movRegMem | movRegImm | movAccDmem | movRegRegAlt | movRegImmAlt | notReg
  | not1Reg8Cl | not1Reg16Cl | not1Reg8Imm | not1Reg16Imm | clr1Reg8Cl | clr1Reg16Cl | clr1Reg8Imm | clr1Reg16Imm
  | set1Reg8Cl | set1Reg16Cl | set1Reg8Imm | set1Reg16Imm => exact .next (setReg refl)
  | cvtbw | trans => exact .next (setReg8 refl)
  | ldea => exact .next (setReg16 refl)
  | xchRegReg => exact .next (setReg (setReg refl))
  | xchMemReg => exact .next (setReg (writeOperand refl))
  | xchAwReg16 => exact .next (setReg16 (setReg16 refl))
  | movMemReg | movMemImm | notMem
  | not1Mem8Cl | not1Mem16Cl | not1Mem8Imm | not1Mem16Imm | clr1Mem8Cl | clr1Mem16Cl | clr1Mem8Imm | clr1Mem16Imm
  | set1Mem8Cl | set1Mem16Cl | set1Mem8Imm | set1Mem16Imm => exact .next (writeOperand refl)
  | movDmemAcc => exact .next (writeMem refl)
  | movSregReg16 | movSregMem16 => exact .next (others (setSreg refl))
  | movReg16Sreg => exact .next (others (setReg16 refl))
  | movMem16Sreg => exact .next (others (writeOperand refl))
  | movDs0Reg16Mem32 | movDs1Reg16Mem32 => exact .next (setSreg (setReg16 refl))
  | movAhPsw => exact .next (others (setReg8 refl))
  | addRegReg | addRegMem | addRegImm | addAccImm | addRegRegAlt
  | addcRegReg | addcRegMem | addcRegImm | addcAccImm | addcRegRegAlt
  | subRegReg | subRegMem | subRegImm | subAccImm | subRegRegAlt
  | subcRegReg | subcRegMem | subcRegImm | subcAccImm | subcRegRegAlt
  | andRegReg | andRegMem | andRegImm | andAccImm | andRegRegAlt | andRegImmAlt
  | orRegReg | orRegMem | orRegImm | orAccImm | orRegRegAlt | orRegImmAlt
  | xorRegReg | xorRegMem | xorRegImm | xorAccImm | xorRegRegAlt | xorRegImmAlt
  | negReg | incReg8 | incReg16 | incReg16Alt | decReg8 | decReg16 | decReg16Alt
  | shlReg1 | shlRegCl | shlRegImm8 | shrReg1 | shrRegCl | shrRegImm8 | shraReg1 | shraRegCl | shraRegImm8
  | rolReg1 | rolRegCl | rolRegImm8 | rorReg1 | rorRegCl | rorRegImm8
  | rolcReg1 | rolcRegCl | rolcRegImm8 | rorcReg1 | rorcRegCl | rorcRegImm8 => exact .next (flags (setReg refl))
  | addMemReg | addMemImm | addcMemReg | addcMemImm | subMemReg | subMemImm | subcMemReg | subcMemImm
  | andMemReg | andMemImm | andMemImmAlt | orMemReg | orMemImm | orMemImmAlt | xorMemReg | xorMemImm | xorMemImmAlt
  | negMem | incMem | decMem
  | shlMem1 | shlMemCl | shlMemImm8 | shrMem1 | shrMemCl | shrMemImm8 | shraMem1 | shraMemCl | shraMemImm8
  | rolMem1 | rolMemCl | rolMemImm8 | rorMem1 | rorMemCl | rorMemImm8
  | rolcMem1 | rolcMemCl | rolcMemImm8 | rorcMem1 | rorcMemCl | rorcMemImm8 =>
    exact .next (flags (writeOperand refl))
  | movPswAh | cmpRegReg | cmpMemReg | cmpRegMem | cmpRegImm | cmpMemImm | cmpAccImm | cmpRegRegAlt
  | testRegReg | testMemReg | testRegImm | testMemImm | testAccImm
  | test1Reg8Cl | test1Mem8Cl | test1Reg16Cl | test1Mem16Cl | test1Reg8Imm | test1Mem8Imm | test1Reg16Imm
  | test1Mem16Imm | not1Cy | clr1Cy | set1Cy => exact .next (flags refl)
  | mulReg16Reg16Imm8 | mulReg16Mem16Imm8 | mulReg16Reg16Imm16 | mulReg16Mem16Imm16 =>
    exact .next (flags (setReg16 refl))
  | muluReg8 | muluMem8 | muluReg16 | muluMem16 | mulReg8 | mulMem8 | mulReg16 | mulMem16 | cvtbd | cvtdb =>
    exact .next (flags (others refl))
  | divuReg8 | divuMem8 => exact .next divu8
  | divuReg16 | divuMem16 => exact .next divu16
  | divReg8 | divMem8 => exact .next div8
  | divReg16 | divMem16 => exact .next div16
  | adj4a | adj4s => exact .next (flags (setReg8 refl))
  | adjba | adjbs =>
    refine .next ?_
    split
    · exact flags (others refl)
    · exact flags (setReg8 refl)
  | cvtwl => exact .next (others refl)
  | clr1Dir | set1Dir => exact .next (psw refl id id)
  | add4s | sub4s | cmp4s => exact .next bcdString
  | rol4Reg8 | ror4Reg8 => exact .next rotateDigitReg
  | rol4Mem8 | ror4Mem8 => exact .next (setAlDigit (writeOperand refl))
  | insReg8Reg8 | insReg8Imm4 => exact .next insertBits
  | extReg8Reg8 | extReg8Imm4 => exact .next extractBits
  | inAccImm8 | inAccDw => exact .next (inAcc refl)
  | outImm8Acc | outDwAcc => exact .next (ioWrite refl)
  | movbk | stm => exact .next (block fun _ => others (writeMem refl))
  | cmpbk | cmpm => exact .next (block fun _ => others (flags refl))
  | ldm => exact .next (block fun _ => others (setReg refl))
  | inm =>
    refine .next (block fun x => ?_)
    rw [inmElem_spec]
    exact others (writeMem (others refl))
  | outm => exact .next (block fun _ => others (ioWrite refl))
  | callNear | callReg16 | callMem16 => exact .next (jump (push refl))
  | callFar | callMem32 => exact .next (jumpFar (push (push refl)))
  | retNear | retNearPop => exact .next (jump (others (others refl)))
  | retFar | retFarPop => exact .next (jumpFar (others (others (others refl))))
  | brNear | brShort | brReg16 | brMem16 => exact .next (jump refl)
  | brFar | brMem32 => exact .next (jumpFar refl)
  | bv | bnv | bc | bnc | be | bne | bnh | bh | bn | bp | bpe | bpo | blt | bge | ble | bgt | bcwz =>
    exact .next (branchIf refl)
  | dbnzne | dbnze | dbnz => exact .next (branchIf (others refl))
  | pushMem16 | pushReg16 | pushReg16Alt | pushSreg | pushPsw | pushImm8 | pushImm16 => exact .next (push refl)
  | pushR => exact .next (push (push (push (push (push (push (push (push refl))))))))
  | popMem16 => exact .next (writeOperand (others refl))
  | popReg16 | popReg16Alt => exact .next (popReg refl)
  | popSreg => exact .next (others (setSreg (others refl)))
  | popR => exact .next (popReg (popReg (popReg (popReg (others (popReg (popReg (popReg refl))))))))
  | prepare =>
    refine .next (others ?_)
    split
    · exact push refl
    · exact push (copyDisplay (push refl))
  | dispose => exact .next (others (others (others refl)))
  | brk3 | brkImm8 => exact .next (interrupt refl)
  | brkv | chkind =>
    refine .next ?_
    split
    · exact interrupt refl
    · exact refl
  | halt | segOverride | buslock => exact .next (others refl)
  | di => exact .next (psw refl id fun _ => rfl)
  | poll =>
    refine .next ?_
    split
    · exact retryOneByte refl
    · exact refl
  | nop | fpo1 | fpo1Mem | fpo2 | fpo2Mem => exact .next refl
  | repc | repnc | rep | repne => exact .repeatPrefix
  | calln => exact .next (enterVector (psw (pushFrame refl) (fun _ => rfl) id))

end Sys2Proof.Machine
end

section
/-! SUPPORT. The invariant of `State.Inv` along a step: around an instruction, at its boundary, in standby and under
RESET; and what the control flags do (R43, R54, R763 to R770, R785, R786, R800). -/

namespace Sys2Proof.Machine

/-! ## The five that set control flags -/

/-- While MD is write-protected a PSW image loads MD as 1 (R54). -/
theorem State.NativeLocked.loadPsw {s : State} (h : s.NativeLocked) (w : Word) : (s.loadPsw w).NativeLocked := by
  obtain ⟨_, hwe⟩ := h
  exact ⟨by simp [State.loadPsw, hwe], hwe⟩

namespace State.Sound

variable {s : State}

theorem popped (h : s.Sound) : s.popped.Sound := ⟨h.mem, h.queue, h.queueBefore⟩

/-- The PSW, the write enable of MD and the inhibit window of EI may be any. -/
theorem control {f : Psw} {we inh : Bool} (h : s.Sound) : { s with psw := f, mdWe := we, inhibitInt := inh }.Sound :=
  ⟨h.mem, h.queue, h.queueBefore⟩

theorem jumpFar {seg off : Word} (h : s.Sound) : (s.jumpFar seg off).Sound := ⟨h.mem, Nat.zero_le _, h.queueBefore⟩

end State.Sound

/-- What BRKEM does where it completes (R675). -/
theorem eq_of_exec_brkem {n : Byte} {s t : State} (h : exec (.brkem n) s = .next t) :
    t = { s.pushFrame with psw := { s.pushFrame.psw with md := false }, mdWe := true }.enterVector n := by
  change execBrkem n s = _ at h
  unfold execBrkem at h
  split at h <;> cases h
  rfl

/-- Every instruction leaves the memory and the queues sound. -/
theorem exec_sound {i : Instr} {s t : State} (hs : s.Sound) (h : exec i s = .next t) : t.Sound := by
  cases hc : setsControl i with
  | false => exact (exec_ordinarily i s hc t h).sound hs
  | true =>
    cases i with
    | ei => cases h; exact hs.control
    | popPsw => cases h; exact hs.popped.control
    | reti | retem => cases h; exact hs.popped.popped.popped.control.jumpFar
    | brkem n =>
      rw [eq_of_exec_brkem h]
      exact (Ordinary.refl.pushFrame.sound hs).control.jumpFar
    | _ => cases hc

/-- What a repeat condition does where it is accepted (R242 to R246). -/
theorem State.eq_of_repeatPrefix {s t : State} {r : Rep} (h : s.repeatPrefix r = .next t) :
    ∃ p : Prefixes, p.count = s.pfx.count + 1 ∧ t = { s with pfx := p } := by
  unfold State.repeatPrefix at h
  split at h <;> cases h
  exact ⟨_, rfl, rfl⟩

/-- Instructions that are prefixes change the prefixes alone, and are counted (R135). -/
theorem exec_prefix {i : Instr} {s t : State} (hi : isPrefix i = true) (h : exec i s = .next t) :
    ∃ p : Prefixes, p.count = s.pfx.count + 1 ∧ t = { s with pfx := p } := by
  cases i with
  | buslock | segOverride => cases h; exact ⟨_, rfl, rfl⟩
  | repc | repnc | rep | repne => exact State.eq_of_repeatPrefix h
  | _ => cases hi

/-! ## The invariant around an instruction -/

theorem State.Inv.sound {s : State} (h : s.Inv) : s.Sound := ⟨h.mem, h.queue, h.queueBefore⟩

/-- A sound state that holds no prefixes but counted ones and is not suspended meets the invariant. -/
theorem State.Sound.inv {s : State} (h : s.Sound) (hp : s.pfx.count = 0 → s.pfx = Prefixes.none)
    (hu : s.suspended = false) : s.Inv := ⟨h.mem, h.queue, h.queueBefore, hp, hu⟩

theorem State.Inv.sample {s : State} (h : s.Inv) : s.sample.Inv :=
  (Ordinary.refl.sample.sound h.sound).inv (by simpa using h.pfx) (by simpa using h.suspended)

/-- The entry of an interrupt, with the latches as they may be, keeps the invariant. -/
theorem State.Inv.interrupt {s : State} (h : s.Inv) (n : Byte) (nmi : Bool) :
    ({ s with nmiPending := nmi, halted := false }.interrupt n).Inv :=
  (Ordinary.refl.others.interrupt.sound h.sound).inv (by simpa using h.pfx) (by simpa using h.suspended)

/-- What a boundary can accept: nothing, or one interrupt (R763, R770). -/
theorem State.accept_cases (s : State) (b : Bool) :
    s.accept b = s ∨ ∃ n nmi, s.accept b = { s with nmiPending := nmi, halted := false }.interrupt n := by
  unfold State.accept
  split
  · exact .inl rfl
  split
  · exact .inl rfl
  split
  · exact .inr ⟨_, _, rfl⟩
  split
  · exact .inr ⟨_, _, rfl⟩
  split
  · exact .inr ⟨_, _, rfl⟩
  · exact .inl rfl

/-- What a step in standby can do after its sample: enter an interrupt, or stay or wake up (R785, R786). -/
theorem State.standbyStep_cases (s : State) :
    (∃ h, s.standbyStep = { s.sample with halted := h }) ∨
      ∃ n nmi, s.standbyStep = { s.sample with nmiPending := nmi, halted := false }.interrupt n := by
  unfold State.standbyStep
  dsimp only
  split
  · exact .inl ⟨_, rfl⟩
  split
  · exact .inr ⟨_, _, rfl⟩
  split
  · split
    · exact .inr ⟨_, _, rfl⟩
    · exact .inl ⟨_, rfl⟩
  · exact .inl ⟨_, rfl⟩

theorem State.Inv.accept {s : State} (h : s.Inv) (b : Bool) : (s.accept b).Inv := by
  obtain e | ⟨n, nmi, e⟩ := s.accept_cases b
  · rwa [e]
  · rw [e]
    exact h.interrupt n nmi

/-- The boundary after an instruction re-establishes the invariant: the prefixes are forgotten, and a suspension ends
(R768). -/
theorem State.Sound.boundary {s : State} (h : s.Sound) (hp : s.pfx = Prefixes.none) (b : Bool) :
    (s.boundary b).Inv := by
  unfold State.boundary
  split
  · exact State.Inv.accept (s := { s with suspended := false })
      ⟨h.mem, h.queue, h.queueBefore, fun _ => hp, rfl⟩ false
  · next hu => exact (h.inv (fun _ => hp) (by simpa using hu)).sample.accept b

theorem State.Inv.standbyStep {s : State} (h : s.Inv) : s.standbyStep.Inv := by
  obtain ⟨a, e⟩ | ⟨n, nmi, e⟩ := s.standbyStep_cases
  · rw [e]
    obtain ⟨m, q, b, p, u⟩ := h.sample
    exact ⟨m, q, b, p, u⟩
  · rw [e]
    exact h.sample.interrupt n nmi

theorem State.Inv.resetStep {s : State} (h : s.Inv) : s.resetStep.Inv :=
  State.Inv.sample (s := s.hardwareReset) ⟨h.mem, Nat.zero_le _, h.queueBefore, fun _ => rfl, rfl⟩

/-- Bytes taken from the queue leave the state sound: the queue noted for POLL is the one that the state had. -/
theorem State.Sound.issue {s : State} (h : s.Sound) (len : Nat) : (s.issue len).Sound := by
  refine Ordinary.refl.prefetch.sound ⟨h.mem, ?_, ?_⟩
  · have := h.queue
    simp only [List.length_drop]
    omega
  · dsimp only
    split
    · exact h.queue
    · exact h.queueBefore

/-- An instruction and its boundary keep the invariant. -/
theorem State.Inv.run {s t : State} (hs : s.Inv) {i : Instr} {len : Nat} (h : s.run i len = .next t) : t.Inv := by
  unfold State.run at h
  split at h
  · have issued := hs.sound.issue len
    split at h
    · next u hu =>
      cases h
      split
      · next hi =>
        obtain ⟨p, hp, rfl⟩ := exec_prefix hi hu
        exact (exec_sound issued hu).inv (fun h0 => absurd (hp.symm.trans h0) (Nat.succ_ne_zero _)) (by simp)
      · obtain ⟨m, q, b⟩ := exec_sound issued hu
        exact State.Sound.boundary (s := u.endInstruction i) ⟨m, q, b⟩ rfl _
    · cases h
    · cases h
  · cases h

end Sys2Proof.Machine

open Sys2Proof Sys2Proof.Machine

/-- Settles O60: a step is a reset, a sample in standby, or an instruction with its boundary, and each keeps the
invariant. -/
theorem stepKeepsTheInvariant : Obligations.StepKeepsTheInvariant := by
  intro s t hs h
  change stepWith none s = _ at h
  unfold stepWith at h
  split at h
  · cases h
    exact hs.resetStep
  split at h
  · cases h
    exact hs.standbyStep
  split at h
  · exact hs.run h
  · cases h
  · cases h

/-- Settles O59: the memory of `State.reset` is empty, and so are its queues. -/
theorem resetStateMeetsTheInvariant : Obligations.ResetStateMeetsTheInvariant :=
  ⟨⟨reset_mem_wf, Nat.zero_le _, Nat.zero_le _, fun _ => rfl, rfl⟩, rfl, rfl, rfl, rfl, rfl, rfl, rfl, rfl, rfl, rfl⟩

/-- Settles O50: of the instructions that set control flags, those left are EI, which keeps MD, and the two loads of the
PSW under the write protection of MD. -/
theorem nativeModeIsLeftByBrkemAlone : Obligations.NativeModeIsLeftByBrkemAlone := by
  intro i s t hmd hwe hbrkem hretem h
  have hn : s.NativeLocked := ⟨hmd, hwe⟩
  cases hc : setsControl i with
  | false => exact (exec_ordinarily i s hc t h).native hn
  | true =>
    cases i with
    | ei => cases h; exact hn
    | popPsw => cases h; exact State.NativeLocked.loadPsw (s := s.popped) hn _
    | reti => cases h; exact State.NativeLocked.loadPsw (s := s.popped.popped.popped) hn _
    | brkem n => exact absurd rfl (hbrkem n)
    | retem => exact absurd rfl hretem
    | _ => cases hc

/-- Settles O51: of the instructions that set control flags only BRKEM is none of the four, and it keeps IE. -/
theorem interruptsAreEnabledByFourInstructions : Obligations.InterruptsAreEnabledByFourInstructions := by
  intro i s t hs h ht
  cases hc : setsControl i with
  | false => exact absurd ((exec_ordinarily i s hc t h).masked hs) (by simp [ht])
  | true =>
    cases i with
    | ei | popPsw | reti | retem => simp
    | brkem n =>
      rw [eq_of_exec_brkem h, State.enterVector, State.jumpFar_psw, State.pushFrame_psw] at ht
      exact absurd ht (by simp [hs])
    | _ => cases hc

end

section
/-! SUPPORT. The bits of the PSW image as a number, and the step under RESET (R40, R800). -/

namespace Sys2Proof.Machine

/-- A bit put below a word doubles the word. -/
theorem toNat_append_ofBool {n : Nat} (x : BitVec n) (b : Bool) :
    (x ++ BitVec.ofBool b).toNat = 2 * x.toNat + b.toNat := by
  rw [BitVec.toNat_append, ← Nat.shiftLeft_add_eq_or_of_lt (BitVec.ofBool b).isLt, Nat.shiftLeft_eq,
    BitVec.toNat_ofBool, Nat.mul_comm, Nat.pow_one]

/-- A RESET that the platform holds with nothing more to sample leaves the state of the reset itself (R800). -/
theorem step_of_reset {s : State} (hr : s.pins.reset = true) (hi : s.inputs = []) :
    step s = .next s.hardwareReset := by
  have hs : s.hardwareReset.sample = s.hardwareReset := by
    simp [State.sample, State.hardwareReset, hi]
  simp [step, stepWith, hr, State.resetStep, hs]

end Sys2Proof.Machine

open Sys2Proof Sys2Proof.Machine

/-- Settles O5: the halves as numbers, and what a write of a byte register returns and keeps. -/
theorem byteRegistersAreHalves : Obligations.ByteRegistersAreHalves := fun s r v =>
  ⟨toNat_loByte _, toNat_hiByte _, toNat_loByte _, toNat_hiByte _, toNat_loByte _, toNat_hiByte _, toNat_loByte _,
    toNat_hiByte _, s.getReg8_setReg8 r v, s.setReg_others .byte r v, s.setReg_only .byte r v⟩

/-- Settles O8: the image is read from its lowest bit on, bit by bit. -/
theorem pswImageHasTheFixedLayout : Obligations.PswImageHasTheFixedLayout := by
  intro f
  refine ⟨?_, Psw.ofImage_image f⟩
  have hone : ∀ {n : Nat} (x : BitVec n), (x ++ (1 : BitVec 1)).toNat = 2 * x.toNat + 1 :=
    fun x => toNat_append_ofBool x true
  have hzero : ∀ {n : Nat} (x : BitVec n), (x ++ (0 : BitVec 1)).toNat = 2 * x.toNat :=
    fun x => toNat_append_ofBool x false
  have htop : (BitVec.ofBool f.md ++ (0b111 : BitVec 3)).toNat = 8 * f.md.toNat + 7 := by
    cases f.md <;> rfl
  simp only [Psw.image, toNat_append_ofBool, hone, hzero, htop]
  omega

/-- Settles O58: the step is the hardware reset, whose fields are those of R800. -/
theorem resetForcesTheInitialState : Obligations.ResetForcesTheInitialState := by
  intro s hr hi
  have firstFetch : (phys 0xFFFF 0).toNat = 0xFFFF0 := by decide
  exact ⟨s.hardwareReset, step_of_reset hr hi, rfl, rfl, rfl, rfl, rfl, rfl, rfl, rfl, rfl, rfl, rfl, rfl, rfl, rfl,
    rfl, rfl, rfl, rfl, rfl, rfl, firstFetch⟩

end

section
/-! SUPPORT. The decoder reads back what the encoder writes. One rule for each reader of the decoder says
what it makes of the bytes that the encoder writes for it; the reading of an instruction is then put together from these
rules along its encoding. -/

namespace Sys2Proof

/-! ## Fields -/

/-- Every 3-bit field is that of a register. -/
theorem Reg.exists_bits (b : BitVec 3) : ∃ r : Reg, r.bits = b := ⟨.ofBits b, by revert b; decide⟩

/-- A byte held zero-extended. -/
theorem zext16_loByte {x : Word} (h : (hiByte x == 0) = true) : zext16 (loByte x) = x := by
  have := Machine.toNat_hiByte x
  have h0 : (hiByte x).toNat = 0 := by rw [beq_iff_eq.1 h]; rfl
  apply BitVec.eq_of_toNat_eq
  simp only [zext16, BitVec.toNat_setWidth, Machine.toNat_loByte]
  omega

theorem loByte_zext16 (b : Byte) : loByte (zext16 b) = b := by
  simp [loByte, zext16]

/-! ## Readers -/

/-- A word put together again from its bytes. -/
theorem ok_mkWord {α : Type} (f : Word → α) (x : Word) :
    (.ok (f (mkWord (hiByte x) (loByte x))) : Except DecodeError α) = .ok (f x) := by
  rw [Machine.mkWord_hi_lo]

theorem takeWord_wordBytes (x : Word) (rest : List Byte) : takeWord (wordBytes x ++ rest) = .ok (x, rest) :=
  ok_mkWord (fun y => (y, rest)) x

theorem takeImm_immBytes {w : Width} {imm : Word} (h : w.immOk imm = true) (rest : List Byte) :
    takeImm w (immBytes w imm ++ rest) = .ok (imm, rest) := by
  cases w
  · exact congrArg (fun y => Except.ok (y, rest)) (zext16_loByte h)
  · exact takeWord_wordBytes imm rest

theorem takeImmSW_immBytes {sw : SW} {imm : Word} (h : sw.immOk imm = true) (rest : List Byte) :
    takeImmSW sw (sw.immBytes imm ++ rest) = .ok (imm, rest) := by
  cases sw with
  | w81 => exact takeWord_wordBytes imm rest
  | b80 | b82 | w83 => exact takeImm_immBytes (w := .byte) h rest

theorem takeRM_rmReg (mid : BitVec 3) (r : Reg) (rest : List Byte) :
    takeRM (rmReg mid r ++ rest) = .ok (mid, .reg r, rest) := by
  obtain ⟨q, rfl⟩ := Reg.exists_bits mid
  cases q <;> cases r <;> rfl

theorem takeRM_rmMem (mid : BitVec 3) {m : Mem} (h : m.wf = true) (rest : List Byte) :
    takeRM (rmMem mid m ++ rest) = .ok (mid, .mem m, rest) := by
  obtain ⟨q, rfl⟩ := Reg.exists_bits mid
  cases m with
  | ind f =>
    cases f with
    | bp => cases h
    | _ => cases q <;> rfl
  | disp8 f disp => cases f <;> cases q <;> rfl
  | disp16 f disp =>
    cases f <;> cases q <;> exact ok_mkWord (fun y => (_, RM.mem (.disp16 _ y), rest)) disp
  | direct addr => cases q <;> exact ok_mkWord (fun y => (_, RM.mem (.direct y), rest)) addr

/-! ## Readings -/

/-- The reader takes these bytes off any list that they begin and answers this instruction. -/
def ReadsTo (d : List Byte → Decoded) (bytes : List Byte) (i : Instr) : Prop :=
  ∀ rest, d (bytes ++ rest) = .ok (i, rest)

namespace ReadsTo

variable {d : List Byte → Decoded} {bs : List Byte} {i : Instr} {mid : BitVec 3}

theorem cons {b : Byte} (h : ReadsTo (fun xs => d (b :: xs)) bs i) : ReadsTo d (b :: bs) i := h

/-- A reader that begins with a word. -/
theorem word {x : Word} {k : Word × List Byte → Decoded} (hd : ∀ xs, d xs = (takeWord xs).bind k)
    (h : ReadsTo (fun xs => k (x, xs)) bs i) : ReadsTo d (wordBytes x ++ bs) i := fun rest => by
  rw [hd, List.append_assoc, takeWord_wordBytes]
  exact h rest

/-- A reader that ends with a word. -/
theorem lastWord {x : Word} {k : Word × List Byte → Decoded} (hd : ∀ xs, d xs = (takeWord xs).bind k)
    (h : ∀ rest, k (x, rest) = .ok (i, rest)) : ReadsTo d (wordBytes x) i := fun rest => by
  rw [hd, takeWord_wordBytes]
  exact h rest

/-- A reader that ends with an immediate. -/
theorem lastImm {w : Width} {imm : Word} {k : Word × List Byte → Decoded} (hw : w.immOk imm = true)
    (hd : ∀ xs, d xs = (takeImm w xs).bind k) (h : ∀ rest, k (imm, rest) = .ok (i, rest)) :
    ReadsTo d (immBytes w imm) i := fun rest => by
  rw [hd, takeImm_immBytes hw]
  exact h rest

/-- A reader that ends with the immediate of the group 80H to 83H. -/
theorem lastImmSW {sw : SW} {imm : Word} {k : Word × List Byte → Decoded} (hw : sw.immOk imm = true)
    (hd : ∀ xs, d xs = (takeImmSW sw xs).bind k) (h : ∀ rest, k (imm, rest) = .ok (i, rest)) :
    ReadsTo d (sw.immBytes imm) i := fun rest => by
  rw [hd, takeImmSW_immBytes hw]
  exact h rest

/-- A reader that ends with the byte of 82H and 83H, of which the instruction holds the low byte alone. -/
theorem lastByteSext {f : Byte → Instr} {b : Byte}
    (h : ∀ rest, d (b :: rest) = .ok (f (loByte (zext16 b)), rest)) : ReadsTo d [b] (f b) := fun rest =>
  (h rest).trans (by rw [loByte_zext16])

/-- A reader that begins with an operand byte for a register. -/
theorem reg {r : Reg} {k : BitVec 3 × RM × List Byte → Decoded} (hd : ∀ xs, d xs = (takeRM xs).bind k)
    (h : ReadsTo (fun xs => k (mid, .reg r, xs)) bs i) : ReadsTo d (rmReg mid r ++ bs) i := fun rest => by
  rw [hd, List.append_assoc, takeRM_rmReg]
  exact h rest

/-- A reader that ends with an operand byte for a register. -/
theorem lastReg {r : Reg} {k : BitVec 3 × RM × List Byte → Decoded} (hd : ∀ xs, d xs = (takeRM xs).bind k)
    (h : ∀ rest, k (mid, .reg r, rest) = .ok (i, rest)) : ReadsTo d (rmReg mid r) i := fun rest => by
  rw [hd, takeRM_rmReg]
  exact h rest

/-- A reader that begins with a memory operand. -/
theorem mem {m : Mem} {k : BitVec 3 × RM × List Byte → Decoded} (hm : m.wf = true)
    (hd : ∀ xs, d xs = (takeRM xs).bind k) (h : ReadsTo (fun xs => k (mid, .mem m, xs)) bs i) :
    ReadsTo d (rmMem mid m ++ bs) i := fun rest => by
  rw [hd, List.append_assoc, takeRM_rmMem mid hm]
  exact h rest

/-- A reader that ends with a memory operand. -/
theorem lastMem {m : Mem} {k : BitVec 3 × RM × List Byte → Decoded} (hm : m.wf = true)
    (hd : ∀ xs, d xs = (takeRM xs).bind k) (h : ∀ rest, k (mid, .mem m, rest) = .ok (i, rest)) :
    ReadsTo d (rmMem mid m) i := fun rest => by
  rw [hd, takeRM_rmMem mid hm]
  exact h rest

end ReadsTo

/-! ## Instructions -/

open ReadsTo in
/-- The native decoder reads the bytes of every well-formed instruction of its mode. The cases are the layouts of the
encodings: the opcode, its W, and what follows it. -/
theorem readsTo_encode (i : Instr) (hn : i.nativeMode = true) (hw : i.wf = true) :
    ReadsTo decodeNative (encode i) i := by
  cases i with
  | calln | retem => cases hn
  | movAhPsw | movPswAh | trans | repc | repnc | rep | repne | add4s | sub4s | cmp4s | adjba | adj4a | adjbs | adj4s
  | cvtbd | cvtdb | cvtbw | cvtwl | not1Cy | clr1Cy | clr1Dir | set1Cy | set1Dir | retNear | retFar | pushPsw | pushR
  | popPsw | popR | dispose | brk3 | brkv | reti | halt | di | poll | ei | buslock | nop => exact fun _ => rfl
  | brShort | pushImm8 | bv | bnv | bc | bnc | be | bne | bnh | bh | bn | bp | bpe | bpo | blt | bge | ble | bgt
  | dbnzne | dbnze | dbnz | bcwz | brkImm8 | brkem => exact fun _ => rfl
  | movbk w | cmpbk w | cmpm w | ldm w | stm w | inAccImm8 w | inAccDw w | outImm8Acc w | outDwAcc w | inm w
  | outm w => cases w <;> exact fun _ => rfl
  | incReg16 r | decReg16 r | pushReg16 r | popReg16 r => cases r <;> exact fun _ => rfl
  | xchAwReg16 r =>
    cases r with
    | al_aw => cases hw
    | _ => exact fun _ => rfl
  | pushSreg sr | segOverride sr => cases sr <;> exact fun _ => rfl
  | popSreg sr =>
    cases sr with
    | ps => cases hw
    | _ => exact fun _ => rfl
  | callNear | retNearPop | retFarPop | brNear | pushImm16 => exact .cons (.lastWord (fun _ => rfl) fun _ => rfl)
  | callFar | brFar => exact .cons (.word (fun _ => rfl) (.lastWord (fun _ => rfl) fun _ => rfl))
  | prepare => exact .cons (.word (fun _ => rfl) fun _ => rfl)
  | movAccDmem w | movDmemAcc w => cases w <;> exact .cons (.lastWord (fun _ => rfl) fun _ => rfl)
  | addAccImm w | addcAccImm w | subAccImm w | subcAccImm w | cmpAccImm w | testAccImm w | andAccImm w | orAccImm w
  | xorAccImm w => cases w <;> exact .cons (.lastImm hw (fun _ => rfl) fun _ => rfl)
  | movRegImm w r => cases w <;> cases r <;> exact .cons (.lastImm hw (fun _ => rfl) fun _ => rfl)
  -- An operand byte for a register, whose middle field is a sub-opcode.
  | incReg8 | decReg8 | incReg16Alt | decReg16Alt | muluReg8 | muluReg16 | mulReg8 | mulReg16 | divuReg8 | divuReg16
  | divReg8 | divReg16 | callReg16 | brReg16 | pushReg16Alt | popReg16Alt =>
    exact .cons (.lastReg (fun _ => rfl) fun _ => rfl)
  | rol4Reg8 | ror4Reg8 | test1Reg8Cl | test1Reg16Cl | not1Reg8Cl | not1Reg16Cl | clr1Reg8Cl | clr1Reg16Cl | set1Reg8Cl
  | set1Reg16Cl => exact .cons (.cons (.lastReg (fun _ => rfl) fun _ => rfl))
  | insReg8Imm4 | extReg8Imm4 | test1Reg8Imm | test1Reg16Imm | not1Reg8Imm | not1Reg16Imm | clr1Reg8Imm | clr1Reg16Imm
  | set1Reg8Imm | set1Reg16Imm => exact .cons (.cons (.reg (fun _ => rfl) fun _ => rfl))
  | notReg w | negReg w | shlReg1 w | shlRegCl w | shrReg1 w | shrRegCl w | shraReg1 w | shraRegCl w | rolReg1 w
  | rolRegCl w | rorReg1 w | rorRegCl w | rolcReg1 w | rolcRegCl w | rorcReg1 w | rorcRegCl w =>
    cases w <;> exact .cons (.lastReg (fun _ => rfl) fun _ => rfl)
  | shlRegImm8 w | shrRegImm8 w | shraRegImm8 w | rolRegImm8 w | rorRegImm8 w | rolcRegImm8 w | rorcRegImm8 w =>
    cases w <;> exact .cons (.reg (fun _ => rfl) fun _ => rfl)
  | testRegImm w | movRegImmAlt w | andRegImm w | orRegImm w | xorRegImm w =>
    cases w <;> exact .cons (.reg (fun _ => rfl) (.lastImm hw (fun _ => rfl) fun _ => rfl))
  | addRegImm sw | addcRegImm sw | subRegImm sw | subcRegImm sw | cmpRegImm sw =>
    cases sw <;> exact .cons (.reg (fun _ => rfl) (.lastImmSW hw (fun _ => rfl) fun _ => rfl))
  | andRegImmAlt w | orRegImmAlt w | xorRegImmAlt w =>
    cases w <;> exact .cons (.reg (fun _ => rfl) (.lastByteSext fun _ => rfl))
  -- An operand byte for a register, whose middle field is a register or a segment register.
  | movRegReg w d | xchRegReg w d | addRegReg w d | addcRegReg w d | subRegReg w d | subcRegReg w d | cmpRegReg w d
  | testRegReg w d | andRegReg w d | orRegReg w d | xorRegReg w d =>
    cases w <;> exact .cons (.lastReg (fun _ => rfl) fun _ => by cases d <;> rfl)
  | movRegRegAlt w _ r | addRegRegAlt w _ r | addcRegRegAlt w _ r | subRegRegAlt w _ r | subcRegRegAlt w _ r
  | cmpRegRegAlt w _ r | andRegRegAlt w _ r | orRegRegAlt w _ r | xorRegRegAlt w _ r =>
    cases w <;> exact .cons (.lastReg (fun _ => rfl) fun _ => by cases r <;> rfl)
  | movSregReg16 sr =>
    cases sr with
    | ps => cases hw
    | _ => exact .cons (.lastReg (fun _ => rfl) fun _ => rfl)
  | movReg16Sreg _ sr => cases sr <;> exact .cons (.lastReg (fun _ => rfl) fun _ => rfl)
  | insReg8Reg8 _ r | extReg8Reg8 _ r => exact .cons (.cons (.lastReg (fun _ => rfl) fun _ => by cases r <;> rfl))
  | mulReg16Reg16Imm8 d => exact .cons (.reg (fun _ => rfl) fun _ => by cases d <;> rfl)
  | mulReg16Reg16Imm16 d => exact .cons (.reg (fun _ => rfl) (.lastWord (fun _ => rfl) fun _ => by cases d <;> rfl))
  | fpo1 x _ z =>
    obtain ⟨p, rfl⟩ := Reg.exists_bits x
    obtain ⟨r, rfl⟩ := Reg.exists_bits z
    cases p <;> exact .cons (.lastReg (fun _ => rfl) fun _ => by cases r <;> rfl)
  | fpo2 x _ z =>
    obtain ⟨r, rfl⟩ := Reg.exists_bits z
    cases x <;> exact .cons (.lastReg (fun _ => rfl) fun _ => by cases r <;> rfl)
  -- A memory operand, whose middle field is a sub-opcode.
  | muluMem8 | muluMem16 | mulMem8 | mulMem16 | divuMem8 | divuMem16 | divMem8 | divMem16 | callMem16 | callMem32
  | brMem16 | brMem32 | pushMem16 | popMem16 => exact .cons (.lastMem hw (fun _ => rfl) fun _ => rfl)
  | rol4Mem8 | ror4Mem8 | test1Mem8Cl | test1Mem16Cl | not1Mem8Cl | not1Mem16Cl | clr1Mem8Cl | clr1Mem16Cl | set1Mem8Cl
  | set1Mem16Cl => exact .cons (.cons (.lastMem hw (fun _ => rfl) fun _ => rfl))
  | test1Mem8Imm | test1Mem16Imm | not1Mem8Imm | not1Mem16Imm | clr1Mem8Imm | clr1Mem16Imm | set1Mem8Imm
  | set1Mem16Imm => exact .cons (.cons (.mem hw (fun _ => rfl) fun _ => rfl))
  | incMem w | decMem w | notMem w | negMem w | shlMem1 w | shlMemCl w | shrMem1 w | shrMemCl w | shraMem1 w
  | shraMemCl w | rolMem1 w | rolMemCl w | rorMem1 w | rorMemCl w | rolcMem1 w | rolcMemCl w | rorcMem1 w
  | rorcMemCl w =>
    cases w <;> exact .cons (.lastMem hw (fun _ => rfl) fun _ => rfl)
  | shlMemImm8 w | shrMemImm8 w | shraMemImm8 w | rolMemImm8 w | rorMemImm8 w | rolcMemImm8 w | rorcMemImm8 w =>
    cases w <;> exact .cons (.mem hw (fun _ => rfl) fun _ => rfl)
  | movMemImm w | testMemImm w | andMemImm w | orMemImm w | xorMemImm w =>
    obtain ⟨hm, himm⟩ := Bool.and_eq_true_iff.1 hw
    cases w <;> exact .cons (.mem hm (fun _ => rfl) (.lastImm himm (fun _ => rfl) fun _ => rfl))
  | addMemImm sw | addcMemImm sw | subMemImm sw | subcMemImm sw | cmpMemImm sw =>
    obtain ⟨hm, himm⟩ := Bool.and_eq_true_iff.1 hw
    cases sw <;> exact .cons (.mem hm (fun _ => rfl) (.lastImmSW himm (fun _ => rfl) fun _ => rfl))
  | andMemImmAlt w | orMemImmAlt w | xorMemImmAlt w =>
    cases w <;> exact .cons (.mem hw (fun _ => rfl) (.lastByteSext fun _ => rfl))
  -- A memory operand, whose middle field is a register, a segment register or free.
  | movMemReg w _ r | xchMemReg w _ r | addMemReg w _ r | addcMemReg w _ r | subMemReg w _ r | subcMemReg w _ r
  | cmpMemReg w _ r | testMemReg w _ r | andMemReg w _ r | orMemReg w _ r | xorMemReg w _ r
  | movRegMem w r | addRegMem w r | addcRegMem w r | subRegMem w r | subcRegMem w r | cmpRegMem w r | andRegMem w r
  | orRegMem w r | xorRegMem w r => cases w <;> exact .cons (.lastMem hw (fun _ => rfl) fun _ => by cases r <;> rfl)
  | movSregMem16 sr =>
    obtain ⟨hsr, hm⟩ := Bool.and_eq_true_iff.1 hw
    cases sr with
    | ps => cases hsr
    | _ => exact .cons (.lastMem hm (fun _ => rfl) fun _ => rfl)
  | movMem16Sreg _ sr => cases sr <;> exact .cons (.lastMem hw (fun _ => rfl) fun _ => rfl)
  | movDs0Reg16Mem32 r | movDs1Reg16Mem32 r | ldea r | chkind r =>
    exact .cons (.lastMem hw (fun _ => rfl) fun _ => by cases r <;> rfl)
  | mulReg16Mem16Imm8 d => exact .cons (.mem hw (fun _ => rfl) fun _ => by cases d <;> rfl)
  | mulReg16Mem16Imm16 d => exact .cons (.mem hw (fun _ => rfl) (.lastWord (fun _ => rfl) fun _ => by cases d <;> rfl))
  | fpo1Mem x =>
    obtain ⟨p, rfl⟩ := Reg.exists_bits x
    cases p <;> exact .cons (.lastMem hw (fun _ => rfl) fun _ => rfl)
  | fpo2Mem x => cases x <;> exact .cons (.lastMem hw (fun _ => rfl) fun _ => rfl)

/-- The decoder reads back what the encoder writes, in the mode of the instruction, whatever bytes follow (R139,
R155). -/
theorem decode_encode {i : Instr} (hw : i.wf = true) (rest : List Byte) :
    decode i.nativeMode (encode i ++ rest) = .ok (i, rest) := by
  cases hn : i.nativeMode with
  | true => exact readsTo_encode i hn hw rest
  | false =>
    cases i with
    | calln | retem => rfl
    | _ => cases hn

end Sys2Proof
end

section
/-! SUPPORT. What a step fetches and runs: the bytes at PS:PC, decoded in the mode that MD names (R38, R139, R155). -/

namespace Sys2Proof.Laws

/-- Every encoding has one to six bytes (R131). -/
theorem coded (i : Instr) : Coded.Statement i := by
  cases i with
  | movRegImm | addAccImm | addcAccImm | subAccImm | subcAccImm | cmpAccImm | testAccImm | andAccImm | orAccImm
  | xorAccImm =>
    exact coded_bytes rfl ((immBytes_length _ _).trans (by decide))
  | testRegImm | movRegImmAlt | andRegImm | orRegImm | xorRegImm => exact coded_regImm rfl (immBytes_length _ _)
  | addRegImm | addcRegImm | subRegImm | subcRegImm | cmpRegImm => exact coded_regImm rfl (swImmBytes_length _ _)
  | movMemReg | xchMemReg | addMemReg | addcMemReg | subMemReg | subcMemReg | cmpMemReg | testMemReg | andMemReg
  | orMemReg | xorMemReg | movRegMem | addRegMem | addcRegMem | subRegMem | subcRegMem | cmpRegMem | andRegMem
  | orRegMem | xorRegMem
  | movSregMem16 | movMem16Sreg | movDs0Reg16Mem32 | movDs1Reg16Mem32 | ldea | chkind | fpo1Mem | fpo2Mem
  | muluMem8 | muluMem16 | mulMem8 | mulMem16 | divuMem8 | divuMem16 | divMem8 | divMem16 | callMem16 | callMem32
  | brMem16 | brMem32 | pushMem16 | popMem16 | incMem | decMem | notMem | negMem
  | shlMem1 | shlMemCl | shrMem1 | shrMemCl | shraMem1 | shraMemCl
  | rolMem1 | rolMemCl | rorMem1 | rorMemCl | rolcMem1 | rolcMemCl | rorcMem1 | rorcMemCl => exact coded_mem rfl
  | rol4Mem8 | ror4Mem8 | test1Mem8Cl | test1Mem16Cl | not1Mem8Cl | not1Mem16Cl | clr1Mem8Cl | clr1Mem16Cl | set1Mem8Cl
  | set1Mem16Cl => exact coded_mem2 rfl
  | test1Mem8Imm | test1Mem16Imm | not1Mem8Imm | not1Mem16Imm | clr1Mem8Imm | clr1Mem16Imm | set1Mem8Imm
  | set1Mem16Imm => exact coded_memImm2 rfl
  | movMemImm | testMemImm | andMemImm | orMemImm | xorMemImm => exact coded_memImm rfl (immBytes_length _ _)
  | addMemImm | addcMemImm | subMemImm | subcMemImm | cmpMemImm => exact coded_memImm rfl (swImmBytes_length _ _)
  | shlMemImm8 | shrMemImm8 | shraMemImm8 | rolMemImm8 | rorMemImm8 | rolcMemImm8 | rorcMemImm8 | mulReg16Mem16Imm8
  | mulReg16Mem16Imm16 | andMemImmAlt | orMemImmAlt | xorMemImmAlt =>
    exact coded_memImm rfl (Nat.le_of_ble_eq_true rfl)
  | _ => exact coded_bytes rfl (Nat.le_of_ble_eq_true rfl)

end Sys2Proof.Laws

namespace Sys2Proof.Machine

/-! ## What a step fetches -/

/-- With an empty queue a byte is fetched from memory (R38). -/
theorem State.fetchByte_of_queue_nil {s : State} (hq : s.queue = []) (k : Nat) :
    s.fetchByte k = s.readByte s.ps (BitVec.ofNat 16 (s.pc.toNat + k)) := by
  simp [State.fetchByte, hq, BitVec.ofNat_add]

/-- Bytes that stand at PS:PC, as many as a window holds, are the front of the window. -/
theorem State.fetchWindow_of_bytes {s : State} {bs : List Byte} (hq : s.queue = []) (hl : bs.length ≤ 6)
    (hb : ∀ k, k < bs.length → bs[k]? = some (s.readByte s.ps (BitVec.ofNat 16 (s.pc.toNat + k)))) :
    s.fetchWindow = bs ++ s.fetchWindow.drop bs.length := by
  have front : s.fetchWindow.take bs.length = bs := by
    apply List.ext_getElem?
    intro k
    by_cases hk : k < bs.length
    · have hk6 : k < 6 := by omega
      rw [List.getElem?_take_of_lt hk, hb k hk, ← s.fetchByte_of_queue_nil hq k]
      simp [State.fetchWindow, hk6]
    · rw [List.getElem?_take_eq_none (by omega), List.getElem?_eq_none (by omega)]
  conv_lhs => rw [← List.take_append_drop bs.length s.fetchWindow, front]

/-- The bytes of a well-formed instruction of the current mode at PS:PC are decoded as it, and its length is what the
step takes. -/
theorem State.fetched_of_encode {s : State} {i : Instr} (hq : s.queue = []) (hw : i.wf = true)
    (hn : i.nativeMode = s.psw.md)
    (hb : ∀ k, k < (encode i).length →
      (encode i)[k]? = some (s.readByte s.ps (BitVec.ofNat 16 (s.pc.toNat + k)))) :
    ∃ rest, s.fetched = .ok (i, rest) ∧ 6 - rest.length = (encode i).length := by
  have hl : (encode i).length ≤ 6 := (Laws.coded i).2
  refine ⟨s.fetchWindow.drop (encode i).length, ?_, ?_⟩
  · rw [State.fetched, State.fetchWindow_of_bytes hq hl hb, ← hn, decode_encode hw, List.drop_left]
  · have hwin : s.fetchWindow.length = 6 := by simp [State.fetchWindow]
    rw [List.length_drop, hwin]
    omega

/-- Nothing prefetched, and nothing planned: an instruction moves PC alone (R38). -/
theorem State.issue_of_queue_nil {s : State} (hq : s.queue = []) (hp : s.prefetchPlan = []) (len : Nat) :
    s.issue len = { s with
      pc := s.pc + BitVec.ofNat 16 len
      queueBefore := if s.pfx.count = 0 then [] else s.queueBefore
      suspended := false } := by
  simp [State.issue, State.prefetch, hq, hp]

/-- The emulation mode decodes CALLN and RETEM alone (R155, R722). -/
theorem State.fetched_of_emulation {s : State} (hmd : s.psw.md = false)
    (hb : ¬(s.fetchByte 0 = 0xED ∧ (s.fetchByte 1 = 0xED ∨ s.fetchByte 1 = 0xFD))) :
    s.fetched = .error .emulationOpcode := by
  have hcalln : ¬(s.fetchByte 0 = 0xED ∧ s.fetchByte 1 = 0xED) := fun ⟨h0, h1⟩ => hb ⟨h0, .inl h1⟩
  have hretem : ¬(s.fetchByte 0 = 0xED ∧ s.fetchByte 1 = 0xFD) := fun ⟨h0, h1⟩ => hb ⟨h0, .inr h1⟩
  rw [State.fetched, hmd]
  exact (if_neg hcalln).trans (if_neg hretem)

/-- A running machine whose bytes decode runs the instruction. -/
theorem stepWith_of_fetched {s : State} {set8080 : Option (State → State)} {i : Instr} {rest : List Byte}
    (hr : s.pins.reset = false) (hh : s.halted = false) (hf : s.fetched = .ok (i, rest)) :
    stepWith set8080 s = s.run i (6 - rest.length) := by
  simp [stepWith, hr, hh, hf]

/-- A running machine in the emulation mode leaves every other instruction to the 8080 set. -/
theorem stepWith_of_emulation {s : State} {set8080 : Option (State → State)} (hr : s.pins.reset = false)
    (hh : s.halted = false) (hf : s.fetched = .error .emulationOpcode) :
    stepWith set8080 s = s.emulated set8080 := by
  simp [stepWith, hr, hh, hf]

end Sys2Proof.Machine

open Sys2Proof Sys2Proof.Machine

/-- Settles O55: the bytes at PS:PC are decoded as the instruction that they encode. -/
theorem stepRunsTheDecodedInstruction : Obligations.StepRunsTheDecodedInstruction := by
  constructor
  · intro s i hr hh hq hp hw hn ha hb
    obtain ⟨rest, hf, hlen⟩ := State.fetched_of_encode hq hw hn hb
    rw [step, stepWith_of_fetched hr hh hf, hlen, State.run, if_pos ha, State.issue_of_queue_nil hq hp]
    generalize exec i _ = result
    cases result <;> rfl
  · intro s f hr hh hmd hb
    have hf := State.fetched_of_emulation hmd hb
    exact ⟨stepWith_of_emulation hr hh hf, stepWith_of_emulation hr hh hf, stepWith_of_emulation hr hh hf⟩

end

section
/-! SUPPORT. A word as two bytes of a segment (R83, R86, R87), and an input into the accumulator (R260, R261). -/

namespace Sys2Proof.Machine

/-! ## Words as two bytes -/

/-- The number after an offset wraps inside the segment as the offset does (R87). -/
theorem ofNat_succ_mod (off : Word) : (BitVec.ofNat 16 ((off.toNat + 1) % 2 ^ 16) : Word) = off + 1 := by
  apply BitVec.eq_of_toNat_eq
  simp [BitVec.toNat_add]

/-- `Read16` as a number: the low byte at the offset, the high byte at the next one (R86, R87). -/
theorem State.toNat_readWord (s : State) (seg off : Word) :
    (s.readWord seg off).toNat = (s.readByte seg off).toNat + 256 * (s.readByte seg (off + 1)).toNat := by
  rw [State.readWord, toNat_mkWord, Nat.mul_comm, Nat.add_comm]

/-- `Write16` puts the low byte at the offset (R87). -/
theorem State.readByte_writeWord_low {s : State} (hs : Memory.wf s.mem = true) (seg off v : Word) :
    (s.writeWord seg off v).readByte seg off = loByte v := by
  have hread := congrArg loByte (State.readWord_writeWord hs seg off v)
  rwa [State.readWord, loByte_mkWord] at hread

/-- `Write16` puts the high byte at the next offset (R87). -/
theorem State.readByte_writeWord_high {s : State} (hs : Memory.wf s.mem = true) (seg off v : Word) :
    (s.writeWord seg off v).readByte seg (off + 1) = hiByte v := by
  have hread := congrArg hiByte (State.readWord_writeWord hs seg off v)
  rwa [State.readWord, hiByte_mkWord] at hread

/-! ## Input into the accumulator -/

/-- An input is a write of the accumulator after the ports have answered (R260, R261). -/
theorem State.inAcc_eq (s : State) (w : Width) (port : Word) :
    s.inAcc w port =
      { s with ioIn := s.ioIn.drop w.bytes, ioCtr := s.ioCtr + w.bytes }.setReg w .al_aw (s.portOperand w port) := by
  rw [State.inAcc, State.ioRead_spec]

/-- An input leaves the other registers: the write of the accumulator does, and the ports' answers are no register. -/
theorem State.inAcc_others (s : State) (w : Width) (port : Word) : OtherRegsKept w .al_aw s (s.inAcc w port) := by
  rw [State.inAcc_eq]
  exact State.setReg_others { s with ioIn := s.ioIn.drop w.bytes, ioCtr := s.ioCtr + w.bytes } w .al_aw _

/-- An instruction that is an input: what the accumulator takes, and the frame (R260, R261). -/
theorem exec_input {i : Instr} {s : State} {w : Width} {port : Word} (h : exec i s = .next (s.inAcc w port)) :
    ∃ t, exec i s = .next t ∧ t.getReg w .al_aw = s.portOperand w port ∧ OtherRegsKept w .al_aw s t ∧
      OnlyRegs { s with ioIn := s.ioIn.drop w.bytes, ioCtr := s.ioCtr + w.bytes } t := by
  refine ⟨_, h, ?_, s.inAcc_others w port, ?_⟩
  · rw [State.inAcc_eq, State.getReg_setReg]
  · rw [State.inAcc_eq]
    exact State.setReg_only ..

/-- An instruction that is an output writes the accumulator to the ports and nothing else (R262, R263). -/
theorem exec_output {i : Instr} {s : State} {w : Width} {port : Word}
    (h : exec i s = .next (s.ioWrite w port (s.getReg w .al_aw))) :
    exec i s = .next { s with ioOut := portWrites w port (s.getReg w .al_aw) ++ s.ioOut } := by
  rw [h, State.ioWrite_spec]

end Sys2Proof.Machine

open Sys2Proof Sys2Proof.Machine

/-- Settles O6: the sum of R83, and the two bytes of a word before and after a write. -/
theorem addressesAndWordsInSegments : Obligations.AddressesAndWordsInSegments := by
  refine ⟨phys_toNat, fun s seg off v hs => ?_⟩
  rw [ofNat_succ_mod, State.readByte_writeWord_low hs, State.readByte_writeWord_high hs]
  exact ⟨s.toNat_readWord seg off, State.readWord_writeWord hs seg off v, toNat_loByte v, toNat_hiByte v,
    s.writeWord_outside seg off v, State.writeWord_wf hs seg off v⟩

/-- Settles O35: each form of IN is an input into the accumulator, each form of OUT an output of it. -/
theorem inputAndOutput : Obligations.InputAndOutput := fun _ _ _ =>
  ⟨exec_input rfl, exec_input rfl, exec_output rfl, exec_output rfl⟩

end

section
/-! SUPPORT. The prefixes that are held (R242 to R246), and the effective address and the segment of a memory operand
(R140 to R144). -/

namespace Sys2Proof.Machine

/-! ## Prefixes -/

/-- A repeat condition after none or the same one is held, and counted (R242 to R246). -/
theorem State.repeatPrefix_of_accepted {s : State} {r : Rep} (h : s.pfx.rep = none ∨ s.pfx.rep = some r) :
    s.repeatPrefix r = .next { s with pfx := { s.pfx with rep := some r, count := s.pfx.count + 1 } } :=
  if_pos h

/-- A repeat condition after a different one is refused (R246). -/
theorem State.repeatPrefix_of_different {s : State} {r : Rep} (hn : s.pfx.rep ≠ none) (hr : s.pfx.rep ≠ some r) :
    s.repeatPrefix r = .refused .repeatCombination :=
  if_neg (not_or.2 ⟨hn, hr⟩)

/-- The four instructions of the list are the repeat conditions that stand beside them (R242 to R245). -/
theorem exec_eq_repeatPrefix (s : State) {i : Instr} {r : Rep}
    (h : (i, r) ∈ [(Instr.repc, Rep.repc), (.repnc, .repnc), (.rep, .rep), (.repne, .repne)]) :
    exec i s = s.repeatPrefix r := by
  simp only [List.mem_cons, List.not_mem_nil, or_false, Prod.mk.injEq] at h
  obtain ⟨rfl, rfl⟩ | ⟨rfl, rfl⟩ | ⟨rfl, rfl⟩ | ⟨rfl, rfl⟩ := h <;> rfl

/-! ## Effective address and segment -/

/-- A word is what it stands for as a signed number, modulo 2^16. -/
theorem toNat_eq_toInt_emod (x : Word) : (x.toNat : Int) = x.toInt % 2 ^ 16 := by
  have hmod : (x.toInt % (2 ^ 16 : Nat) : Int) = x.toNat % (2 ^ 16 : Nat) := by
    rw [BitVec.toInt_eq_toNat_bmod, Int.bmod_emod]
  omega

/-- A sign-extended byte displacement is added as a signed number, modulo 2^16 (R141). -/
theorem toNat_add_sext16 (x : Word) (d : Byte) : ((x + sext16 d).toNat : Int) = (x.toNat + d.toInt) % 2 ^ 16 := by
  have hext : (sext16 d).toInt = d.toInt := BitVec.toInt_signExtend_of_le (by decide)
  have hd : ((sext16 d).toNat : Int) = d.toInt % 2 ^ 16 := by rw [toNat_eq_toInt_emod, hext]
  rw [BitVec.toNat_add]
  omega

/-- The default segment is SS for the rows with BP, else DS0 (R142). -/
theorem formSeg_eq (f : AddrForm) : formSeg f = if f = .bp_ix ∨ f = .bp_iy ∨ f = .bp then .ss else .ds0 := by
  cases f <;> rfl

theorem State.overridden_of_none {s : State} (h : s.pfx.seg = none) (sr : Sreg) :
    s.overridden sr = s.getSreg sr := by rw [State.overridden, h, Option.getD_none]

theorem State.overridden_of_some {s : State} {sr : Sreg} (h : s.pfx.seg = some sr) (d : Sreg) :
    s.overridden d = s.getSreg sr := by rw [State.overridden, h, Option.getD_some]

end Sys2Proof.Machine

open Sys2Proof Sys2Proof.Machine

/-- Settles O53: the repeat prefixes of the list are the repeat conditions beside them. -/
theorem prefixesAreHeld : Obligations.PrefixesAreHeld := fun s _ =>
  ⟨rfl, rfl, fun _ _ h => (exec_eq_repeatPrefix s h).symm ▸
    ⟨State.repeatPrefix_of_accepted, State.repeatPrefix_of_different⟩⟩

/-- Settles O2: the decoder reads back what the encoder writes, in the mode of the instruction. -/
theorem decodeOfEncodeIsTheInstruction : Obligations.DecodeOfEncodeIsTheInstruction :=
  fun _ rest hw => decode_encode hw rest

/-- Settles O7: the register sum of each row, a displacement added to it, and the default segment or the override. -/
theorem effectiveAddressAndSegment : Obligations.EffectiveAddressAndSegment := by
  intro s f d8 d16 sum usesBp
  have hsum : (s.baseSum f).toNat = sum f % 2 ^ 16 := by
    cases f with
    | bw_ix | bw_iy | bp_ix | bp_iy => exact BitVec.toNat_add ..
    | ix | iy | bp | bw => exact (Nat.mod_eq_of_lt (BitVec.isLt _)).symm
  refine ⟨hsum, ?_, ?_, rfl, fun hn => ⟨State.overridden_of_none hn _, fun m hm => ?_⟩, fun sr m hs =>
    State.overridden_of_some hs _⟩
  · rw [State.ea, toNat_add_sext16, hsum]
    omega
  · rw [State.ea, BitVec.toNat_add, hsum, Nat.mod_add_mod]
  · have hseg : s.segOf m = s.getSreg (formSeg f) := by
      obtain rfl | rfl | rfl := hm <;> exact State.overridden_of_none hn _
    rw [hseg, formSeg_eq]
    exact ⟨fun h => by rw [if_pos h]; rfl, fun h => by rw [if_neg h]; rfl⟩

/-- Settles O1: the decoder evaluates on each of the words. -/
theorem decodeReadsWrittenWords : Obligations.DecodeReadsWrittenWords :=
  ⟨rfl, rfl, rfl, rfl, rfl, rfl, rfl, rfl⟩

end

section
/-! SUPPORT. What the native decoder can answer (R139, R150, R153): one rule for each of its readers, the table of R153
opcode by opcode, and from these the answer of each row of the map; and what the emulation mode decodes (R155). -/

namespace Sys2Proof

/-! ## Fields of a byte -/

/-- The byte with these two hexadecimal digits. -/
def hex (h l : Nat) : Byte := BitVec.ofNat 8 (16 * h + l)

theorem exists_hex (b : Byte) : ∃ h < 16, ∃ l < 16, b = hex h l := by
  refine ⟨b.toNat / 16, by omega, b.toNat % 16, by omega, BitVec.eq_of_toNat_eq ?_⟩
  simp only [hex, BitVec.toNat_ofNat]
  omega

theorem hex_high {h l : Nat} (hh : h < 16) (hl : l < 16) : ((hex h l).extractLsb' 4 4).toNat = h := by
  simp only [hex, BitVec.extractLsb'_toNat, BitVec.toNat_ofNat, Nat.shiftRight_eq_div_pow]
  omega

theorem eq_ofNat_of_toNat {b : Byte} {n : Nat} (h : b.toNat = n) : b = BitVec.ofNat 8 n := by
  rw [← h, BitVec.ofNat_toNat, BitVec.setWidth_eq]

/-- The field `mod` of an operand byte as a number (R134). -/
def modeField (b : Byte) : Nat := b.toNat / 64

/-- The middle field of an operand byte as a number (R134). -/
def middleField (b : Byte) : Nat := b.toNat / 8 % 8

theorem toNat_mode (b : Byte) : (b.extractLsb' 6 2).toNat = modeField b := by
  simp only [modeField, BitVec.extractLsb'_toNat, Nat.shiftRight_eq_div_pow]
  omega

theorem toNat_middle (b : Byte) : (b.extractLsb' 3 3).toNat = middleField b := by
  simp only [middleField, BitVec.extractLsb'_toNat, Nat.shiftRight_eq_div_pow]

theorem toNat_ne_zero_iff {mid : BitVec 3} : mid.toNat ≠ 0 ↔ mid ≠ 0 := (BitVec.toNat_eq (y := 0)).not.symm

/-! ## Readers -/

theorem AddrForm.ofBits_ne_bp {low : BitVec 3} (h : low ≠ 6) : AddrForm.ofBits low ≠ .bp := by
  revert low; decide

/-- A byte immediate is held zero-extended (R136). -/
theorem immOk_zext16 (b : Byte) : Width.byte.immOk (zext16 b) = true := by
  rw [Width.immOk, beq_iff_eq]
  apply BitVec.eq_of_toNat_eq
  rw [Machine.toNat_hiByte, zext16, BitVec.toNat_setWidth]
  change b.toNat % 65536 / 256 = 0
  omega

theorem takeWord_cases (bytes : List Byte) :
    (∃ x taken rest, taken.length ≤ 2 ∧ bytes = taken ++ rest ∧ takeWord bytes = .ok (x, rest)) ∨
    (bytes.length < 2 ∧ takeWord bytes = .error .truncated) := by
  match bytes with
  | [] | [_] => exact .inr ⟨by simp, rfl⟩
  | lo :: hi :: rest => exact .inl ⟨_, [lo, hi], rest, Nat.le_refl 2, rfl, rfl⟩

/-- What reading an operand byte and its displacement can answer: a register, which takes no more bytes; a memory
operand and at most two bytes of displacement; nothing where these are missing (R134, R140). -/
theorem takeRM_cases (b : Byte) (bytes : List Byte) :
    (modeField b = 3 ∧ ∃ r, takeRM (b :: bytes) = .ok (b.extractLsb' 3 3, .reg r, bytes)) ∨
    (modeField b ≠ 3 ∧ ∃ m taken rest, m.wf = true ∧ taken.length ≤ 2 ∧ bytes = taken ++ rest ∧
      takeRM (b :: bytes) = .ok (b.extractLsb' 3 3, .mem m, rest)) ∨
    (bytes.length < 2 ∧ takeRM (b :: bytes) = .error .truncated) := by
  rw [← toNat_mode]
  simp only [takeRM, takeByte, bind, Except.bind]
  split
  · next h =>
    split
    · obtain ⟨x, taken, rest, hl, hb, hw⟩ | ⟨hl, hw⟩ := takeWord_cases bytes <;> rw [h, hw]
      · exact .inr (.inl ⟨by decide, .direct x, taken, rest, rfl, hl, hb, rfl⟩)
      · exact .inr (.inr ⟨hl, rfl⟩)
    · next hlow =>
      have hm : (Mem.ind (.ofBits (b.extractLsb' 0 3))).wf = true := bne_iff_ne.2 (AddrForm.ofBits_ne_bp hlow)
      exact .inr (.inl ⟨by omega, _, [], bytes, hm, Nat.zero_le 2, rfl, rfl⟩)
  · next h =>
    match bytes with
    | [] => exact .inr (.inr ⟨by decide, rfl⟩)
    | disp :: rest => exact .inr (.inl ⟨by omega, .disp8 _ disp, [disp], rest, rfl, by simp, rfl, rfl⟩)
  · next h =>
    obtain ⟨x, taken, rest, hl, hb, hw⟩ | ⟨hl, hw⟩ := takeWord_cases bytes <;> rw [h, hw]
    · exact .inr (.inl ⟨by decide, .disp16 _ x, taken, rest, rfl, hl, hb, rfl⟩)
    · exact .inr (.inr ⟨hl, rfl⟩)
  · next h0 h1 h2 =>
    simp only [imp_false] at h0 h1 h2
    exact .inl ⟨by omega, _, rfl⟩

/-! ## Answers -/

/-- Instructions of the native mode that some bytes stand for. -/
def Instr.Valid (i : Instr) : Prop := i.wf = true ∧ i.nativeMode = true

/-- What a native decoder may answer for these bytes: an instruction that some bytes stand for, with at most `n` bytes
taken off the front, where the bytes are none of the refused ones; an error only where they are, or where fewer than
`n` bytes are given. -/
def Answers (refused : Prop) (n : Nat) (bytes : List Byte) : Decoded → Prop
  | .ok (i, rest) => ¬refused ∧ i.Valid ∧ ∃ taken, taken.length ≤ n ∧ bytes = taken ++ rest
  | .error _ => n ≤ bytes.length → refused

namespace Answers

variable {refused : Prop} {n m : Nat} {bytes rest : List Byte} {d : Decoded}

theorem done {i : Instr} (h : i.Valid) : Answers False n bytes (.ok (i, bytes)) :=
  ⟨not_false, h, [], Nat.zero_le _, rfl⟩

theorem error {e : DecodeError} (h : refused) : Answers refused n bytes (.error e) := fun _ => h

theorem congr {p q : Prop} (h : p ↔ q) (hd : Answers q n bytes d) : Answers p n bytes d := (propext h).symm ▸ hd

/-- Bytes taken off the front before the reader `d`. -/
theorem after {taken : List Byte} (ht : taken.length ≤ m) (h : Answers refused n rest d) :
    Answers refused (n + m) (taken ++ rest) d := by
  cases d with
  | error e =>
    intro hl
    rw [List.length_append] at hl
    exact h (by omega)
  | ok a =>
    obtain ⟨hr, hv, t, hl, rfl⟩ := h
    exact ⟨hr, hv, taken ++ t, by rw [List.length_append]; omega, (List.append_assoc ..).symm⟩

/-- A reader that begins with a byte. -/
theorem byte {k : Byte × List Byte → Decoded}
    (h : ∀ b rest, bytes = b :: rest → Answers refused n rest (k (b, rest))) :
    Answers refused (n + 1) bytes (takeByte bytes >>= k) := by
  cases bytes with
  | nil => exact fun hl => absurd hl (Nat.not_succ_le_zero n)
  | cons b rest => exact after (taken := [b]) (Nat.le_refl 1) (h b rest rfl)

/-- A reader that begins with a word. -/
theorem word {k : Word × List Byte → Decoded} (h : ∀ x rest, Answers refused n rest (k (x, rest))) :
    Answers refused (n + 2) bytes (takeWord bytes >>= k) := by
  obtain ⟨x, taken, rest, ht, rfl, hw⟩ | ⟨hl, hw⟩ := takeWord_cases bytes <;> rw [hw]
  · exact after ht (h x rest)
  · exact fun hl' => absurd hl' (by omega)

/-- A reader that begins with an immediate. -/
theorem imm {w : Width} {k : Word × List Byte → Decoded}
    (h : ∀ x rest, w.immOk x = true → Answers refused n rest (k (x, rest))) :
    Answers refused (n + 2) bytes (takeImm w bytes >>= k) := by
  cases w with
  | byte =>
    cases bytes with
    | nil => exact fun hl => absurd hl (Nat.not_succ_le_zero _)
    | cons b rest => exact after (taken := [b]) (by simp) (h (zext16 b) rest (immOk_zext16 b))
  | word => exact word fun x rest => h x rest rfl

/-- A reader that begins with the immediate of the group 80H to 83H. -/
theorem immSW {sw : SW} {k : Word × List Byte → Decoded}
    (h : ∀ x rest, sw.immOk x = true → Answers refused n rest (k (x, rest))) :
    Answers refused (n + 2) bytes (takeImmSW sw bytes >>= k) := by
  cases sw with
  | w81 => exact word fun x rest => h x rest rfl
  | b80 | b82 | w83 => exact imm (w := .byte) h

theorem of_eq_ok {i : Instr} (hd : Answers refused n bytes d) (h : d = .ok (i, rest)) :
    i.Valid ∧ ∃ taken, taken.length ≤ n ∧ bytes = taken ++ rest := by
  subst h
  exact hd.2

/-- With enough bytes, an error is exactly what the refused ones get. -/
theorem error_iff (hd : Answers refused n bytes d) (hl : n ≤ bytes.length) : (∃ e, d = .error e) ↔ refused := by
  cases d with
  | ok a => exact ⟨fun ⟨_, he⟩ => (nomatch he), fun hr => absurd hr hd.1⟩
  | error e => exact ⟨fun _ => hd hl, fun _ => ⟨e, rfl⟩⟩

theorem accepted (h : ¬refused) (hd : Answers False n bytes d) : Answers refused n bytes d :=
  congr (iff_false_intro h) hd

/-- A check that refuses. -/
theorem check {c : Prop} [Decidable c] {e : DecodeError} (h : refused ↔ c) (hd : Answers False n bytes d) :
    Answers refused n bytes (if c then .error e else d) := by
  split
  · next hc => exact .error (h.2 hc)
  · next hc => exact .accepted (mt h.1 hc) hd

/-! A reader that begins with an operand byte. What is refused may depend on the fields of that byte. -/

variable {k : BitVec 3 × RM × List Byte → Decoded}

theorem rm
    (hreg : ∀ mid r rest, middleField (bytes.getD 0 0) = mid.toNat → modeField (bytes.getD 0 0) = 3 →
      Answers refused n rest (k (mid, .reg r, rest)))
    (hmem : ∀ mid m rest, m.wf = true → middleField (bytes.getD 0 0) = mid.toNat → modeField (bytes.getD 0 0) ≠ 3 →
      Answers refused n rest (k (mid, .mem m, rest))) :
    Answers refused (n + 3) bytes (takeRM bytes >>= k) := by
  cases bytes with
  | nil => exact fun hl => absurd hl (Nat.not_succ_le_zero _)
  | cons b bytes =>
    obtain ⟨hb, r, h⟩ | ⟨hb, m, taken, rest, hm, hl, rfl, h⟩ | ⟨hl, h⟩ := takeRM_cases b bytes <;> rw [h]
    · exact after (taken := [b]) (by simp) (hreg _ r bytes (toNat_middle b).symm hb)
    · exact after (taken := b :: taken) (Nat.succ_le_succ hl) (hmem _ m rest hm (toNat_middle b).symm hb)
    · exact fun hl' => absurd hl' (by simp; omega)

/-- An operand byte whose middle field is a sub-opcode: `P` says which sub-opcodes are refused, and may depend on
whether the operand is a register. -/
theorem bySub (P : Nat → Prop → Prop)
    (hreg : ∀ (q r : Reg) rest, Answers (P q.bits.toNat True) n rest (k (q.bits, .reg r, rest)))
    (hmem : ∀ (q : Reg) m rest, m.wf = true → Answers (P q.bits.toNat False) n rest (k (q.bits, .mem m, rest))) :
    Answers (P (middleField (bytes.getD 0 0)) (modeField (bytes.getD 0 0) = 3)) (n + 3) bytes (takeRM bytes >>= k) := by
  refine rm (fun mid r rest hmid hmod => ?_) (fun mid m rest hm hmid hmod => ?_) <;>
    obtain ⟨q, rfl⟩ := Reg.exists_bits mid
  · rw [hmid, eq_true hmod]
    exact hreg q r rest
  · rw [hmid, eq_false hmod]
    exact hmem q m rest hm

/-- Any operand is accepted. -/
theorem anyRM (hreg : ∀ mid r rest, Answers refused n rest (k (mid, .reg r, rest)))
    (hmem : ∀ mid m rest, m.wf = true → Answers refused n rest (k (mid, .mem m, rest))) :
    Answers refused (n + 3) bytes (takeRM bytes >>= k) :=
  rm (fun mid r rest _ _ => hreg mid r rest) fun mid m rest hm _ _ => hmem mid m rest hm

/-- An operation that needs an address (R146). -/
theorem memOnly (h : refused ↔ modeField (bytes.getD 0 0) = 3)
    (hreg : ∀ mid r rest, ∃ e, k (mid, .reg r, rest) = .error e)
    (hmem : ∀ mid m rest, m.wf = true → Answers False n rest (k (mid, .mem m, rest))) :
    Answers refused (n + 3) bytes (takeRM bytes >>= k) :=
  rm (fun mid r rest _ hb => by
      obtain ⟨e, he⟩ := hreg mid r rest
      exact he ▸ .error (h.2 hb))
    fun mid m rest hm _ hb => .accepted (mt h.1 hb) (hmem mid m rest hm)

/-- A group whose only sub-opcode is 000. -/
theorem onlySub {y : RM → List Byte → Decoded} {e : DecodeError} (h : refused ↔ middleField (bytes.getD 0 0) ≠ 0)
    (hk : ∀ mid rm rest, k (mid, rm, rest) = if mid ≠ 0 then .error e else y rm rest)
    (hreg : ∀ r rest, Answers False n rest (y (.reg r) rest))
    (hmem : ∀ m rest, m.wf = true → Answers False n rest (y (.mem m) rest)) :
    Answers refused (n + 3) bytes (takeRM bytes >>= k) := by
  have hmid {mid : BitVec 3} (hm : middleField (bytes.getD 0 0) = mid.toNat) : refused ↔ mid ≠ 0 :=
    h.trans (hm ▸ toNat_ne_zero_iff)
  exact rm (fun mid r rest hm _ => hk mid _ rest ▸ .check (hmid hm) (hreg r rest))
    fun mid m rest hw hm _ => hk mid _ rest ▸ .check (hmid hm) (hmem m rest hw)

/-- The sub-opcodes of the shifts and rotates: 110 is none of them (R152 (b)). -/
theorem shiftOp {mid : BitVec 3} {y : ShiftOp → Decoded} (h : refused ↔ mid.toNat = 6)
    (hd : ∀ op, Answers False n bytes (y op)) : Answers refused n bytes (ShiftOp.ofBits mid >>= y) := by
  obtain ⟨q, rfl⟩ := Reg.exists_bits mid
  cases q with
  | dh_ix => exact .error (h.2 rfl)
  | _ => exact .accepted (mt h.1 (by decide)) (hd _)

/-- A group of shifts and rotates. -/
theorem shifts {y : RM → List Byte → ShiftOp → Decoded} (h : refused ↔ middleField (bytes.getD 0 0) = 6)
    (hk : ∀ mid rm rest, k (mid, rm, rest) = ShiftOp.ofBits mid >>= y rm rest)
    (hreg : ∀ r rest op, Answers False n rest (y (.reg r) rest op))
    (hmem : ∀ m rest op, m.wf = true → Answers False n rest (y (.mem m) rest op)) :
    Answers refused (n + 3) bytes (takeRM bytes >>= k) :=
  rm (fun mid r rest hm _ => hk mid _ rest ▸ .shiftOp (hm ▸ h) (hreg r rest))
    fun mid m rest hw hm _ => hk mid _ rest ▸ .shiftOp (hm ▸ h) fun op => hmem m rest op hw

end Answers

/-! ## The groups that share a layout -/

section Groups

variable (op : AluOp) (sh : ShiftOp) (bit : BitOp) (w : Width) (d r : Reg) {m : Mem} {imm : Word} (i : Byte)

theorem aluRegReg_valid : (aluRegReg op w d r).Valid := by cases op <;> exact ⟨rfl, rfl⟩

theorem aluRegRegAlt_valid : (aluRegRegAlt op w d r).Valid := by cases op <;> exact ⟨rfl, rfl⟩

theorem aluMemReg_valid (hm : m.wf = true) : (aluMemReg op w m r).Valid := by cases op <;> exact ⟨hm, rfl⟩

theorem aluRegMem_valid (hm : m.wf = true) : (aluRegMem op w r m).Valid := by cases op <;> exact ⟨hm, rfl⟩

theorem aluAccImm_valid (h : w.immOk imm = true) : (aluAccImm op w imm).Valid := by cases op <;> exact ⟨h, rfl⟩

theorem aluRegImm_valid {sw : SW} (h : sw.immOk imm = true) : (aluRegImm op sw r imm).Valid := by
  cases op with
  | add | addc | sub | subc | cmp => exact ⟨h, rfl⟩
  | or | and | xor =>
    cases sw with
    | b80 | w81 => exact ⟨h, rfl⟩
    | b82 | w83 => exact ⟨rfl, rfl⟩

theorem aluMemImm_valid {sw : SW} (hm : m.wf = true) (h : sw.immOk imm = true) : (aluMemImm op sw m imm).Valid := by
  cases op with
  | add | addc | sub | subc | cmp => exact ⟨Bool.and_eq_true_iff.2 ⟨hm, h⟩, rfl⟩
  | or | and | xor =>
    cases sw with
    | b80 | w81 => exact ⟨Bool.and_eq_true_iff.2 ⟨hm, h⟩, rfl⟩
    | b82 | w83 => exact ⟨hm, rfl⟩

theorem shiftReg1_valid : (shiftReg1 sh w r).Valid := by cases sh <;> exact ⟨rfl, rfl⟩

theorem shiftRegCl_valid : (shiftRegCl sh w r).Valid := by cases sh <;> exact ⟨rfl, rfl⟩

theorem shiftRegImm8_valid : (shiftRegImm8 sh w r i).Valid := by cases sh <;> exact ⟨rfl, rfl⟩

theorem shiftMem1_valid (hm : m.wf = true) : (shiftMem1 sh w m).Valid := by cases sh <;> exact ⟨hm, rfl⟩

theorem shiftMemCl_valid (hm : m.wf = true) : (shiftMemCl sh w m).Valid := by cases sh <;> exact ⟨hm, rfl⟩

theorem shiftMemImm8_valid (hm : m.wf = true) : (shiftMemImm8 sh w m i).Valid := by cases sh <;> exact ⟨hm, rfl⟩

theorem bitRegCl_valid : (bitRegCl bit w r).Valid := by cases bit <;> cases w <;> exact ⟨rfl, rfl⟩

theorem bitRegImm_valid : (bitRegImm bit w r i).Valid := by cases bit <;> cases w <;> exact ⟨rfl, rfl⟩

theorem bitMemCl_valid (hm : m.wf = true) : (bitMemCl bit w m).Valid := by cases bit <;> cases w <;> exact ⟨hm, rfl⟩

theorem bitMemImm_valid (hm : m.wf = true) : (bitMemImm bit w m i).Valid := by
  cases bit <;> cases w <;> exact ⟨hm, rfl⟩

end Groups

/-! ## The table of R153, opcode by opcode -/

section Table

open Machine

variable {b0 b1 b2 : Byte}

/-- The first bytes that the table of R153 names. -/
def tableOpcodes : List Byte :=
  [0x0F, 0x62, 0x63, 0x8C, 0x8D, 0x8E, 0x8F, 0xC0, 0xC1, 0xC4, 0xC5, 0xC6, 0xC7, 0xD0, 0xD1, 0xD2, 0xD3, 0xD4, 0xD5,
    0xD6, 0xF1, 0xF6, 0xF7, 0xFE, 0xFF]

theorem not_unassigned (h : b0 ∉ tableOpcodes) : ¬Unassigned b0 b1 b2 := by
  simp only [tableOpcodes, List.mem_cons, List.not_mem_nil, or_false, not_or, BitVec.ofNat_eq_ofNat] at h
  simp [Unassigned, h]

theorem unassigned_opcode (h : b0 ∈ [0x63, 0xD6, 0xF1]) : Unassigned b0 b1 b2 := .inl h

/-- The operations that need an address (R146). -/
theorem unassigned_memOnly (h : b0 ∈ [0x62, 0x8D, 0xC4, 0xC5]) : Unassigned b0 b1 b2 ↔ modeField b1 = 3 := by
  simp only [List.mem_cons, List.not_mem_nil, or_false] at h
  obtain rfl | rfl | rfl | rfl := h <;> simp [Unassigned, modeField]

/-- The groups whose only sub-opcode is 000. -/
theorem unassigned_onlySub (h : b0 ∈ [0x8F, 0xC6, 0xC7]) : Unassigned b0 b1 b2 ↔ middleField b1 ≠ 0 := by
  simp only [List.mem_cons, List.not_mem_nil, or_false] at h
  obtain rfl | rfl | rfl := h <;> simp [Unassigned, middleField]

theorem unassigned_shifts (h : b0 ∈ [0xC0, 0xC1, 0xD0, 0xD1, 0xD2, 0xD3]) :
    Unassigned b0 b1 b2 ↔ middleField b1 = 6 := by
  simp only [List.mem_cons, List.not_mem_nil, or_false] at h
  obtain rfl | rfl | rfl | rfl | rfl | rfl := h <;> simp [Unassigned, middleField]

theorem unassigned_8C : Unassigned 0x8C b1 b2 ↔ 4 ≤ middleField b1 := by simp [Unassigned, middleField]

theorem unassigned_8E : Unassigned 0x8E b1 b2 ↔ 4 ≤ middleField b1 ∨ middleField b1 % 4 = 1 := by
  simp [Unassigned, middleField]

theorem unassigned_D4_D5 (h : b0 ∈ [0xD4, 0xD5]) : Unassigned b0 b1 b2 ↔ b1 ≠ 0x0A := by
  simp only [List.mem_cons, List.not_mem_nil, or_false] at h
  obtain rfl | rfl := h <;> simp [Unassigned]

theorem unassigned_F6_F7 (h : b0 ∈ [0xF6, 0xF7]) : Unassigned b0 b1 b2 ↔ middleField b1 = 1 := by
  simp only [List.mem_cons, List.not_mem_nil, or_false] at h
  obtain rfl | rfl := h <;> simp [Unassigned, middleField]

theorem unassigned_FE : Unassigned 0xFE b1 b2 ↔ 2 ≤ middleField b1 := by simp [Unassigned, middleField]

theorem unassigned_FF : Unassigned 0xFF b1 b2 ↔
    middleField b1 = 7 ∨ (middleField b1 = 3 ∨ middleField b1 = 5) ∧ modeField b1 = 3 := by
  simp [Unassigned, middleField, modeField]

/-- The row 1x of the two-byte opcodes (R151). -/
theorem row1_iff (b : Byte) : b.extractLsb' 4 4 = 1 ↔ 0x10 ≤ b ∧ b ≤ 0x1F := by
  rw [BitVec.toNat_eq, BitVec.extractLsb'_toNat, Nat.shiftRight_eq_div_pow, BitVec.le_def, BitVec.le_def]
  change b.toNat / 2 ^ 4 % 2 ^ 4 = 1 ↔ 16 ≤ b.toNat ∧ b.toNat ≤ 31
  omega

/-- TEST1, NOT1, CLR1 and SET1. -/
theorem unassigned_bits (h : b1.extractLsb' 4 4 = 1) : Unassigned 0x0F b1 b2 ↔ middleField b2 ≠ 0 := by
  obtain ⟨h1, h2⟩ := (row1_iff b1).1 h
  have hs : b1 ∉ ([0x28, 0x2A, 0x31, 0x33, 0x39, 0x3B] : List Byte) := by
    intro hm
    simp only [List.mem_cons, List.not_mem_nil, or_false] at hm
    obtain rfl | rfl | rfl | rfl | rfl | rfl := hm <;> exact absurd h (by decide)
  simp only [List.mem_cons, List.not_mem_nil, or_false, not_or, BitVec.ofNat_eq_ofNat] at h1 h2 hs
  simp [Unassigned, middleField, h1, h2, hs]

/-- ROL4 and ROR4. -/
theorem unassigned_nibbles (h : b1 ∈ [0x28, 0x2A]) : Unassigned 0x0F b1 b2 ↔ middleField b2 ≠ 0 := by
  simp only [List.mem_cons, List.not_mem_nil, or_false] at h
  obtain rfl | rfl := h <;> simp [Unassigned, middleField]

/-- INS and EXT with two registers. -/
theorem unassigned_fields (h : b1 ∈ [0x31, 0x33]) : Unassigned 0x0F b1 b2 ↔ modeField b2 ≠ 3 := by
  simp only [List.mem_cons, List.not_mem_nil, or_false] at h
  obtain rfl | rfl := h <;> simp [Unassigned, modeField]

/-- INS and EXT with a length in an immediate. -/
theorem unassigned_fieldsImm (h : b1 ∈ [0x39, 0x3B]) :
    Unassigned 0x0F b1 b2 ↔ modeField b2 ≠ 3 ∨ middleField b2 ≠ 0 := by
  simp only [List.mem_cons, List.not_mem_nil, or_false] at h
  obtain rfl | rfl := h <;> simp [Unassigned, modeField, middleField]

theorem not_unassigned_second (h : b1 ∈ [0x20, 0x22, 0x26, 0xFF]) : ¬Unassigned 0x0F b1 b2 := by
  simp only [List.mem_cons, List.not_mem_nil, or_false] at h
  obtain rfl | rfl | rfl | rfl := h <;> simp [Unassigned]

theorem unassigned_second (hrow : b1.extractLsb' 4 4 ≠ 1)
    (h : b1 ∉ ([0x20, 0x22, 0x26, 0x28, 0x2A, 0x31, 0x33, 0x39, 0x3B, 0xFF] : List Byte)) : Unassigned 0x0F b1 b2 :=
  .inr (.inl ⟨rfl, mt (row1_iff b1).2 hrow, h⟩)

end Table

open Machine

/-! ## The rows of the map (R150) -/

/-- What the table refuses of the bytes after the opcode. -/
def Refuses (b0 : Byte) (bytes : List Byte) : Prop := Unassigned b0 (bytes.getD 0 0) (bytes.getD 1 0)

/-- A first byte that the table of R153 does not name. -/
theorem Answers.ordinary {b0 : Byte} {n : Nat} {bytes rest : List Byte} {d : Decoded} (h : b0 ∉ tableOpcodes)
    (hd : Answers False n rest d) : Answers (Refuses b0 bytes) n rest d :=
  .accepted (not_unassigned h) hd

/-- `00ooo0dW` and `00ooo10W`. -/
theorem decodeAlu_answers (op : AluOp) (b : Byte) (bytes : List Byte) :
    Answers False 5 bytes (decodeAlu op b bytes) := by
  unfold decodeAlu
  split
  · exact .anyRM (fun _ _ _ => .done (aluRegRegAlt_valid ..)) fun _ _ _ hm => .done (aluMemReg_valid _ _ _ hm)
  · exact .anyRM (fun _ _ _ => .done (aluRegReg_valid ..)) fun _ _ _ hm => .done (aluRegMem_valid _ _ _ hm)
  · exact .imm fun _ _ h => .done (aluAccImm_valid _ _ h)

/-- The bytes after 0FH and 10H to 1FH: the middle field is 000 (R151). -/
theorem decodeBit_answers (b : Byte) (bytes : List Byte) :
    Answers (middleField (bytes.getD 0 0) ≠ 0) 4 bytes (decodeBit b bytes) := by
  refine .onlySub .rfl (fun _ _ _ => rfl) (fun r rest => ?_) fun m rest hm => ?_ <;> split
  · exact .byte fun _ _ _ => .done (bitRegImm_valid ..)
  · exact .done (bitRegCl_valid ..)
  · exact .byte fun _ _ _ => .done (bitMemImm_valid _ _ _ hm)
  · exact .done (bitMemCl_valid _ _ hm)

theorem decodeSecond_answers (bytes : List Byte) :
    Answers (Refuses 0x0F bytes) 5 bytes (decodeSecond bytes) := by
  refine .byte fun b1 rest h => ?_
  subst h
  change Answers (Unassigned 0x0F b1 (rest.getD 0 0)) 4 rest (if b1.extractLsb' 4 4 = 1 then decodeBit b1 rest else _)
  split
  · next hrow => exact .congr (unassigned_bits hrow) (decodeBit_answers b1 rest)
  · next hrow =>
    split
    case h_1 h | h_2 h | h_3 h =>
      obtain rfl := eq_ofNat_of_toNat h
      exact .accepted (not_unassigned_second (by decide)) (.done ⟨rfl, rfl⟩)
    case h_4 h | h_5 h =>
      obtain rfl := eq_ofNat_of_toNat h
      exact .onlySub (unassigned_nibbles (by decide)) (fun _ _ _ => rfl) (fun _ _ => .done ⟨rfl, rfl⟩)
        fun _ _ hm => .done ⟨hm, rfl⟩
    case h_6 h | h_7 h =>
      obtain rfl := eq_ofNat_of_toNat h
      refine .congr (unassigned_fields (by decide)) (.rm (fun _ _ _ _ hmod => ?_) fun _ _ _ _ _ hmod => .error hmod)
      exact .accepted (not_not_intro hmod) (.done ⟨rfl, rfl⟩)
    case h_8 h | h_9 h =>
      obtain rfl := eq_ofNat_of_toNat h
      refine .congr (unassigned_fieldsImm (by decide)) (.rm (fun mid r rest hmid hmod => ?_) fun _ _ _ _ _ hmod =>
        .error (.inl hmod))
      refine .check ?_ (.byte fun _ _ _ => .done ⟨rfl, rfl⟩)
      rw [hmod, hmid, ← toNat_ne_zero_iff]
      exact or_iff_right (not_not_intro rfl)
    case h_10 h =>
      obtain rfl := eq_ofNat_of_toNat h
      exact .accepted (not_unassigned_second (by decide)) (.byte fun _ _ _ => .done ⟨rfl, rfl⟩)
    case h_11 =>
      refine .error (unassigned_second hrow ?_)
      intro hm
      simp only [List.mem_cons, List.not_mem_nil, or_false] at hm
      obtain rfl | rfl | rfl | rfl | rfl | rfl | rfl | rfl | rfl | rfl := hm <;> contradiction

theorem decodeLow_answers {b : Byte} (hb : b.toNat < 0x40) (bytes : List Byte) :
    Answers (Refuses b bytes) 5 bytes (decodeLow b bytes) := by
  by_cases h0F : b = 0x0F
  · subst h0F
    exact decodeSecond_answers bytes
  · refine .ordinary (by revert b; decide) ?_
    unfold decodeLow
    split
    · unfold decodeLowSlots
      split
      case h_4 h => exact absurd (BitVec.eq_of_toNat_eq h) h0F
      all_goals exact .done ⟨rfl, rfl⟩
    · exact decodeAlu_answers ..

theorem decode4_answers (b : Byte) (bytes : List Byte) : Answers False 5 bytes (decode4 b bytes) := by
  unfold decode4
  split <;> exact .done ⟨rfl, rfl⟩

theorem decode5_answers (b : Byte) (bytes : List Byte) : Answers False 5 bytes (decode5 b bytes) := by
  unfold decode5
  split <;> exact .done ⟨rfl, rfl⟩

theorem decode6_answers {l : Nat} (hl : l < 16) (bytes : List Byte) :
    Answers (Refuses (hex 6 l) bytes) 5 bytes (decode6 (hex 6 l) bytes) := by
  match l, hl with
  | 0, _ | 1, _ | 4, _ | 5, _ | 12, _ | 13, _ | 14, _ | 15, _ => exact .ordinary (by decide) (.done ⟨rfl, rfl⟩)
  | 2, _ => exact .memOnly (unassigned_memOnly (by decide)) (fun _ _ _ => ⟨_, rfl⟩) fun _ _ _ hm => .done ⟨hm, rfl⟩
  | 3, _ => exact .error (unassigned_opcode (by decide))
  | 6, _ | 7, _ => exact .ordinary (by decide) (.anyRM (fun _ _ _ => .done ⟨rfl, rfl⟩) fun _ _ _ hm => .done ⟨hm, rfl⟩)
  | 8, _ => exact .ordinary (by decide) (.word fun _ _ => .done ⟨rfl, rfl⟩)
  | 9, _ =>
    exact .ordinary (by decide) (.anyRM (fun _ _ _ => .word fun _ _ => .done ⟨rfl, rfl⟩)
      fun _ _ _ hm => .word fun _ _ => .done ⟨hm, rfl⟩)
  | 10, _ => exact .ordinary (by decide) (.byte fun _ _ _ => .done ⟨rfl, rfl⟩)
  | 11, _ =>
    exact .ordinary (by decide) (.anyRM (fun _ _ _ => .byte fun _ _ _ => .done ⟨rfl, rfl⟩)
      fun _ _ _ hm => .byte fun _ _ _ => .done ⟨hm, rfl⟩)
  | l + 16, h => omega

theorem decode7_answers (b : Byte) (bytes : List Byte) : Answers False 5 bytes (decode7 b bytes) := by
  refine .byte fun disp rest _ => ?_
  dsimp only
  split <;> exact .done ⟨rfl, rfl⟩

/-- 8CH: the middle field is `0 sreg` (R134). -/
theorem decode8C_answers (bytes : List Byte) :
    Answers (4 ≤ middleField (bytes.getD 0 0)) 5 bytes (decode8 0x8C bytes) := by
  refine .bySub (fun mid _ => 4 ≤ mid) (fun q r rest => ?_) fun q m rest hm => ?_
  · cases q with
    | al_aw | cl_cw | dl_dw | bl_bw => exact .accepted (by decide) (.done ⟨rfl, rfl⟩)
    | _ => exact .error (by decide)
  · cases q with
    | al_aw | cl_cw | dl_dw | bl_bw => exact .accepted (by decide) (.done ⟨hm, rfl⟩)
    | _ => exact .error (by decide)

/-- 8EH: as 8CH, and PS is no destination (R153). -/
theorem decode8E_answers (bytes : List Byte) :
    Answers (4 ≤ middleField (bytes.getD 0 0) ∨ middleField (bytes.getD 0 0) % 4 = 1) 5 bytes
      (decode8 0x8E bytes) := by
  refine .bySub (fun mid _ => 4 ≤ mid ∨ mid % 4 = 1) (fun q r rest => ?_) fun q m rest hm => ?_
  · cases q with
    | al_aw | dl_dw | bl_bw => exact .accepted (by decide) (.done ⟨rfl, rfl⟩)
    | _ => exact .error (by decide)
  · cases q with
    | al_aw | dl_dw | bl_bw => exact .accepted (by decide) (.done ⟨hm, rfl⟩)
    | _ => exact .error (by decide)

theorem decode8_answers {l : Nat} (hl : l < 16) (bytes : List Byte) :
    Answers (Refuses (hex 8 l) bytes) 5 bytes (decode8 (hex 8 l) bytes) := by
  match l, hl with
  | 0, _ | 1, _ | 2, _ | 3, _ =>
    exact .ordinary (by decide) (.anyRM (fun _ _ _ => .immSW fun _ _ h => .done (aluRegImm_valid _ _ h))
      fun _ _ _ hm => .immSW fun _ _ h => .done (aluMemImm_valid _ hm h))
  | 4, _ | 5, _ | 6, _ | 7, _ | 8, _ | 9, _ | 10, _ | 11, _ =>
    exact .ordinary (by decide) (.anyRM (fun _ _ _ => .done ⟨rfl, rfl⟩) fun _ _ _ hm => .done ⟨hm, rfl⟩)
  | 12, _ => exact .congr unassigned_8C (decode8C_answers bytes)
  | 13, _ => exact .memOnly (unassigned_memOnly (by decide)) (fun _ _ _ => ⟨_, rfl⟩) fun _ _ _ hm => .done ⟨hm, rfl⟩
  | 14, _ => exact .congr unassigned_8E (decode8E_answers bytes)
  | 15, _ =>
    exact .onlySub (unassigned_onlySub (by decide)) (fun _ _ _ => rfl) (fun _ _ => .done ⟨rfl, rfl⟩)
      fun _ _ hm => .done ⟨hm, rfl⟩
  | l + 16, h => omega

theorem decode9_answers {l : Nat} (hl : l < 16) (bytes : List Byte) :
    Answers False 5 bytes (decode9 (hex 9 l) bytes) := by
  match l, hl with
  | 10, _ => exact .word fun _ _ => .word fun _ _ => .done ⟨rfl, rfl⟩
  | 0, _ | 1, _ | 2, _ | 3, _ | 4, _ | 5, _ | 6, _ | 7, _ | 8, _ | 9, _ | 11, _ | 12, _ | 13, _ | 14, _ | 15, _ =>
    exact .done ⟨rfl, rfl⟩
  | l + 16, h => omega

theorem decodeA_answers (b : Byte) (bytes : List Byte) : Answers False 5 bytes (decodeA b bytes) := by
  unfold decodeA
  split
  case h_1 | h_2 => exact .word fun _ _ => .done ⟨rfl, rfl⟩
  case h_5 => exact .imm fun _ _ h => .done ⟨h, rfl⟩
  all_goals exact .done ⟨rfl, rfl⟩

theorem decodeB_answers (b : Byte) (bytes : List Byte) : Answers False 5 bytes (decodeB b bytes) :=
  .imm fun _ _ h => .done ⟨h, rfl⟩

theorem decodeC_answers {l : Nat} (hl : l < 16) (bytes : List Byte) :
    Answers (Refuses (hex 12 l) bytes) 5 bytes (decodeC (hex 12 l) bytes) := by
  match l, hl with
  | 0, _ | 1, _ =>
    exact .shifts (unassigned_shifts (by decide)) (fun _ _ _ => rfl)
      (fun _ _ _ => .byte fun _ _ _ => .done (shiftRegImm8_valid ..))
      fun _ _ _ hm => .byte fun _ _ _ => .done (shiftMemImm8_valid _ _ _ hm)
  | 2, _ | 10, _ => exact .ordinary (by decide) (.word fun _ _ => .done ⟨rfl, rfl⟩)
  | 3, _ | 9, _ | 11, _ | 12, _ | 14, _ | 15, _ => exact .ordinary (by decide) (.done ⟨rfl, rfl⟩)
  | 4, _ | 5, _ =>
    exact .memOnly (unassigned_memOnly (by decide)) (fun _ _ _ => ⟨_, rfl⟩) fun _ _ _ hm => .done ⟨hm, rfl⟩
  | 6, _ | 7, _ =>
    exact .onlySub (unassigned_onlySub (by decide)) (fun _ _ _ => rfl) (fun _ _ => .imm fun _ _ h => .done ⟨h, rfl⟩)
      fun _ _ hm => .imm fun _ _ h => .done ⟨Bool.and_eq_true_iff.2 ⟨hm, h⟩, rfl⟩
  | 8, _ => exact .ordinary (by decide) (.word fun _ _ => .byte fun _ _ _ => .done ⟨rfl, rfl⟩)
  | 13, _ => exact .ordinary (by decide) (.byte fun _ _ _ => .done ⟨rfl, rfl⟩)
  | l + 16, h => omega

theorem decodeD_answers {l : Nat} (hl : l < 16) (bytes : List Byte) :
    Answers (Refuses (hex 13 l) bytes) 5 bytes (decodeD (hex 13 l) bytes) := by
  match l, hl with
  | 0, _ | 1, _ =>
    exact .shifts (unassigned_shifts (by decide)) (fun _ _ _ => rfl) (fun _ _ _ => .done (shiftReg1_valid ..))
      fun _ _ _ hm => .done (shiftMem1_valid _ _ hm)
  | 2, _ | 3, _ =>
    exact .shifts (unassigned_shifts (by decide)) (fun _ _ _ => rfl) (fun _ _ _ => .done (shiftRegCl_valid ..))
      fun _ _ _ hm => .done (shiftMemCl_valid _ _ hm)
  | 4, _ | 5, _ =>
    refine .congr (unassigned_D4_D5 (by decide)) (.byte fun b rest h => ?_)
    subst h
    dsimp only [List.getD_cons_zero]
    split
    · next hb => exact .accepted (not_not_intro hb) (.done ⟨rfl, rfl⟩)
    · next hb => exact .error hb
  | 6, _ => exact .error (unassigned_opcode (by decide))
  | 7, _ => exact .ordinary (by decide) (.done ⟨rfl, rfl⟩)
  | 8, _ | 9, _ | 10, _ | 11, _ | 12, _ | 13, _ | 14, _ | 15, _ =>
    exact .ordinary (by decide) (.anyRM (fun _ _ _ => .done ⟨rfl, rfl⟩) fun _ _ _ hm => .done ⟨hm, rfl⟩)
  | l + 16, h => omega

theorem decodeE_answers {l : Nat} (hl : l < 16) (bytes : List Byte) :
    Answers False 5 bytes (decodeE (hex 14 l) bytes) := by
  match l, hl with
  | 0, _ | 1, _ | 2, _ | 3, _ | 4, _ | 5, _ | 6, _ | 7, _ | 11, _ => exact .byte fun _ _ _ => .done ⟨rfl, rfl⟩
  | 8, _ | 9, _ => exact .word fun _ _ => .done ⟨rfl, rfl⟩
  | 10, _ => exact .word fun _ _ => .word fun _ _ => .done ⟨rfl, rfl⟩
  | 12, _ | 13, _ | 14, _ | 15, _ => exact .done ⟨rfl, rfl⟩
  | l + 16, h => omega

theorem decodeF6_answers (w : Width) (bytes : List Byte) :
    Answers (middleField (bytes.getD 0 0) = 1) 5 bytes (decodeF6 w bytes) := by
  refine .bySub (fun mid _ => mid = 1) (fun q r rest => ?_) fun q m rest hm => ?_
  · cases q with
    | al_aw => exact .accepted (by decide) (.imm fun _ _ h => .done ⟨h, rfl⟩)
    | cl_cw => exact .error rfl
    | dl_dw | bl_bw => exact .accepted (by decide) (.done ⟨rfl, rfl⟩)
    | ah_sp | ch_bp | dh_ix | bh_iy => cases w <;> exact .accepted (by decide) (.done ⟨rfl, rfl⟩)
  · cases q with
    | al_aw => exact .accepted (by decide) (.imm fun _ _ h => .done ⟨Bool.and_eq_true_iff.2 ⟨hm, h⟩, rfl⟩)
    | cl_cw => exact .error rfl
    | dl_dw | bl_bw => exact .accepted (by decide) (.done ⟨hm, rfl⟩)
    | ah_sp | ch_bp | dh_ix | bh_iy => cases w <;> exact .accepted (by decide) (.done ⟨hm, rfl⟩)

theorem decodeFE_answers (bytes : List Byte) :
    Answers (2 ≤ middleField (bytes.getD 0 0)) 5 bytes (decodeFE bytes) := by
  refine .bySub (fun mid _ => 2 ≤ mid) (fun q r rest => ?_) fun q m rest hm => ?_
  · cases q with
    | al_aw | cl_cw => exact .accepted (by decide) (.done ⟨rfl, rfl⟩)
    | _ => exact .error (by decide)
  · cases q with
    | al_aw | cl_cw => exact .accepted (by decide) (.done ⟨hm, rfl⟩)
    | _ => exact .error (by decide)

theorem decodeFF_answers (bytes : List Byte) :
    Answers (middleField (bytes.getD 0 0) = 7 ∨
      (middleField (bytes.getD 0 0) = 3 ∨ middleField (bytes.getD 0 0) = 5) ∧ modeField (bytes.getD 0 0) = 3) 5 bytes
      (decodeFF bytes) := by
  refine .bySub (fun mid reg => mid = 7 ∨ (mid = 3 ∨ mid = 5) ∧ reg) (fun q r rest => ?_) fun q m rest hm => ?_
  · cases q with
    | bl_bw | ch_bp | bh_iy => exact .error (by decide)
    | _ => exact .accepted (by decide) (.done ⟨rfl, rfl⟩)
  · cases q with
    | bh_iy => exact .error (by decide)
    | _ => exact .accepted (by decide) (.done ⟨hm, rfl⟩)

theorem decodeF_answers {l : Nat} (hl : l < 16) (bytes : List Byte) :
    Answers (Refuses (hex 15 l) bytes) 5 bytes (decodeF (hex 15 l) bytes) := by
  match l, hl with
  | 1, _ => exact .error (unassigned_opcode (by decide))
  | 6, _ => exact .congr (unassigned_F6_F7 (by decide)) (decodeF6_answers .byte bytes)
  | 7, _ => exact .congr (unassigned_F6_F7 (by decide)) (decodeF6_answers .word bytes)
  | 14, _ => exact .congr unassigned_FE (decodeFE_answers bytes)
  | 15, _ => exact .congr unassigned_FF (decodeFF_answers bytes)
  | 0, _ | 2, _ | 3, _ | 4, _ | 5, _ | 8, _ | 9, _ | 10, _ | 11, _ | 12, _ | 13, _ =>
    exact .ordinary (by decide) (.done ⟨rfl, rfl⟩)
  | l + 16, h => omega

/-- What the native decoder answers for a first byte and any bytes after it (R150, R153). -/
theorem decodeNative_answers (b : Byte) (bytes : List Byte) :
    Answers (Refuses b bytes) 5 bytes (decodeNative (b :: bytes)) := by
  obtain ⟨h, hh, l, hl, rfl⟩ := exists_hex b
  rw [decodeNative, hex_high hh hl]
  match h, hh with
  | 0, _ | 1, _ | 2, _ | 3, _ => exact decodeLow_answers (by revert l; decide) bytes
  | 4, _ => exact .ordinary (by revert l; decide) (decode4_answers _ bytes)
  | 5, _ => exact .ordinary (by revert l; decide) (decode5_answers _ bytes)
  | 6, _ => exact decode6_answers hl bytes
  | 7, _ => exact .ordinary (by revert l; decide) (decode7_answers _ bytes)
  | 8, _ => exact decode8_answers hl bytes
  | 9, _ => exact .ordinary (by revert l; decide) (decode9_answers hl bytes)
  | 10, _ => exact .ordinary (by revert l; decide) (decodeA_answers _ bytes)
  | 11, _ => exact .ordinary (by revert l; decide) (decodeB_answers _ bytes)
  | 12, _ => exact decodeC_answers hl bytes
  | 13, _ => exact decodeD_answers hl bytes
  | 14, _ => exact .ordinary (by revert l; decide) (decodeE_answers hl bytes)
  | 15, _ => exact decodeF_answers hl bytes
  | h + 16, hh => omega

/-- What the emulation mode decodes (R155). -/
theorem decodeEmulation_ok {bytes rest : List Byte} {i : Instr} (h : decodeEmulation bytes = .ok (i, rest)) :
    (∃ n, i = .calln n ∧ bytes = [0xED, 0xED, n] ++ rest) ∨ i = .retem ∧ bytes = [0xED, 0xFD] ++ rest := by
  match bytes with
  | [] | [_] => cases h
  | b1 :: b2 :: bytes =>
    by_cases hcalln : b1 = 0xED ∧ b2 = 0xED
    · obtain ⟨rfl, rfl⟩ := hcalln
      match bytes with
      | [] => cases h
      | n :: bytes =>
        cases h
        exact .inl ⟨n, rfl, rfl⟩
    · by_cases hretem : b1 = 0xED ∧ b2 = 0xFD
      · obtain ⟨rfl, rfl⟩ := hretem
        cases h
        exact .inr ⟨rfl, rfl⟩
      · cases ((if_neg hcalln).trans (if_neg hretem)).symm.trans h

end Sys2Proof

open Sys2Proof Sys2Proof.Machine

/-- Settles O4: six bytes are as many as any answer of the native decoder can need. -/
theorem unassignedPatternsAreRefused : Obligations.UnassignedPatternsAreRefused := fun b0 b1 b2 b3 b4 b5 =>
  Answers.error_iff (decodeNative_answers b0 [b1, b2, b3, b4, b5]) (Nat.le_refl 5)

/-- Settles O3: the first byte and what the reader of its row takes; CALLN and RETEM. -/
theorem decodedInstructionsAreWellFormed : Obligations.DecodedInstructionsAreWellFormed := by
  intro md bytes i rest h
  cases md with
  | true =>
    cases bytes with
    | nil => cases h
    | cons b bytes =>
      obtain ⟨⟨hw, hn⟩, taken, hl, rfl⟩ := (decodeNative_answers b bytes).of_eq_ok h
      exact ⟨hw, hn, b :: taken, rfl, Nat.le_add_left .., Nat.succ_le_succ hl⟩
  | false =>
    obtain ⟨n, rfl, rfl⟩ | ⟨rfl, rfl⟩ := decodeEmulation_ok h
    · exact ⟨rfl, rfl, [0xED, 0xED, n], rfl, by simp, by simp⟩
    · exact ⟨rfl, rfl, [0xED, 0xFD], rfl, by decide, by decide⟩

end

section
/-! SUPPORT. The data transfers: an exchange of two operands, the byte that the flags make in AH, and the moves that
write a segment register or open the window of R765. -/

namespace Sys2Proof.Machine

/-! ## Registers -/

/-- The byte registers are halves of word registers (R32). -/
theorem State.getReg8_congr {s t : State} (h : ∀ x, t.getReg16 x = s.getReg16 x) (r : Reg) :
    t.getReg8 r = s.getReg8 r := by
  cases r with
  | al_aw => exact congrArg loByte (h .al_aw)
  | cl_cw => exact congrArg loByte (h .cl_cw)
  | dl_dw => exact congrArg loByte (h .dl_dw)
  | bl_bw => exact congrArg loByte (h .bl_bw)
  | ah_sp => exact congrArg hiByte (h .al_aw)
  | ch_bp => exact congrArg hiByte (h .cl_cw)
  | dh_ix => exact congrArg hiByte (h .dl_dw)
  | bh_iy => exact congrArg hiByte (h .bl_bw)

/-- A register write leaves the other registers of any earlier state with the same general registers. -/
theorem OtherRegsKept.setReg {s t : State} (h : ∀ x, t.getReg16 x = s.getReg16 x) (w : Width) (r : Reg)
    (v : BitVec w.bits) : OtherRegsKept w r s (t.setReg w r v) := by
  cases w with
  | byte =>
    obtain ⟨hothers, hsp, hbp, hix, hiy⟩ := t.setReg_others .byte r v
    exact ⟨fun x hx => (hothers x hx).trans (State.getReg8_congr h x), hsp.trans (h .ah_sp), hbp.trans (h .ch_bp),
      hix.trans (h .dh_ix), hiy.trans (h .bh_iy)⟩
  | word => exact fun x hx => (t.getReg16_setReg16_other v hx).trans (h x)

/-- A register other than the written one keeps its value. -/
theorem State.getReg_setReg_other (s : State) (w : Width) {r x : Reg} (v : BitVec w.bits) (h : x ≠ r) :
    (s.setReg w r v).getReg w x = s.getReg w x := by
  cases w with
  | byte => exact s.getReg8_setReg8_other v h
  | word => exact s.getReg16_setReg16_other v h

theorem OnlyRegs.trans {s t u : State} (h : OnlyRegs s t) (g : OnlyRegs t u) : OnlyRegs s u := by
  unfold OnlyRegs at *
  rw [g, h]

/-- A write of memory leaves the general registers. -/
theorem State.getReg16_writeOperand (s : State) (w : Width) (m : Mem) (v : BitVec w.bits) (r : Reg) :
    (s.writeOperand w m v).getReg16 r = s.getReg16 r := by
  cases r <;> simp [State.getReg16]

/-- A write of a segment register leaves the general registers. -/
theorem State.getReg16_setSreg (s : State) (sr : Sreg) (v : Word) (r : Reg) :
    (s.setSreg sr v).getReg16 r = s.getReg16 r := by
  cases r <;> simp [State.getReg16]

/-! ## Offsets -/

/-- The second word of a `mem32` operand is at EA + 2 modulo 2^16 (R88). -/
theorem ofNat_add_two (off : Word) : (BitVec.ofNat 16 (off.toNat + 2) : Word) = off + 2 := by
  rw [BitVec.ofNat_add, BitVec.ofNat_toNat, BitVec.setWidth_eq]
  rfl

/-- TRANS adds AL to BW modulo 2^16 (R217). -/
theorem State.add_zext16_al (s : State) :
    s.bw + zext16 s.al = BitVec.ofNat 16 (s.bw.toNat + s.aw.toNat % 256) := by
  have hal : (zext16 s.al).toNat = s.aw.toNat % 256 := by
    rw [zext16, BitVec.toNat_setWidth_of_le (by decide)]
    exact toNat_loByte s.aw
  apply BitVec.eq_of_toNat_eq
  rw [BitVec.toNat_add, BitVec.toNat_ofNat, hal]

/-! ## Segment registers and the window after them -/

/-- A register and a segment register are written in either order. -/
theorem State.setSreg_setReg16 (s : State) (r : Reg) (sr : Sreg) (a b : Word) :
    (s.setReg16 r a).setSreg sr b = (s.setSreg sr b).setReg16 r a := by
  cases r <;> cases sr <;> rfl

/-- The window may be opened before a register is written. -/
theorem State.inhibitingAll_setReg16 (s : State) (r : Reg) (v : Word) :
    (s.setReg16 r v).inhibitingAll = s.inhibitingAll.setReg16 r v := by
  cases r <;> rfl

/-- What a segment register written leaves: PS is no destination (D10). -/
theorem State.setSreg_inhibitingAll_only (s : State) {sr : Sreg} (hps : sr ≠ .ps) (v : Word) :
    (s.setSreg sr v).inhibitingAll =
      { s with
        ss := (s.setSreg sr v).ss, ds0 := (s.setSreg sr v).ds0, ds1 := (s.setSreg sr v).ds1, inhibitAll := true } := by
  cases sr with
  | ps => contradiction
  | ds1 | ss | ds0 => rfl

/-- An instruction that loads a segment register and opens the window (R208, R209, R765). -/
theorem exec_loadSreg {i : Instr} {s : State} {sr : Sreg} {v : Word} (hps : sr ≠ .ps)
    (h : exec i s = .next (s.setSreg sr v).inhibitingAll) :
    ∃ t, exec i s = .next t ∧ t.getSreg sr = v ∧ (∀ x, x ≠ sr → t.getSreg x = s.getSreg x) ∧
      t = { s with ss := t.ss, ds0 := t.ds0, ds1 := t.ds1, inhibitAll := true } := by
  have hread : ∀ x, (s.setSreg sr v).inhibitingAll.getSreg x = if x = sr then v else s.getSreg x :=
    fun x => s.getSreg_setSreg sr x v
  exact ⟨_, h, (hread sr).trans (if_pos rfl), fun x hx => (hread x).trans (if_neg hx),
    s.setSreg_inhibitingAll_only hps v⟩

/-- An instruction that loads a word register and opens the window (R210, R765). -/
theorem exec_loadReg16_inhibiting {i : Instr} {s : State} {r : Reg} {v : Word}
    (h : exec i s = .next (s.setReg16 r v).inhibitingAll) :
    ∃ t, exec i s = .next t ∧ t.getReg16 r = v ∧ OtherRegsKept .word r s t ∧ OnlyRegs { s with inhibitAll := true } t := by
  rw [State.inhibitingAll_setReg16] at h
  exact ⟨_, h, State.getReg16_setReg16 .., .setReg (fun x => by cases x <;> rfl) .word r v,
    s.inhibitingAll.setReg_only .word r v⟩

/-- An instruction that stores a word operand and opens the window (R211, R765). -/
theorem exec_storeWord_inhibiting {i : Instr} {s : State} {m : Mem} {v : Word} (hs : Memory.wf s.mem = true)
    (h : exec i s = .next (s.writeOperand .word m v).inhibitingAll) :
    ∃ t, exec i s = .next t ∧ t.readWord (s.segOf m) (s.ea m) = v ∧
      MemKeptOutside 2 (s.segOf m) (s.ea m) s t ∧ t = { s with mem := t.mem, inhibitAll := true } :=
  ⟨_, h, State.readWord_writeWord hs (s.segOf m) (s.ea m) v, s.writeWord_outside (s.segOf m) (s.ea m) v, rfl⟩

/-- An instruction that loads a pointer into a word register and a segment register (R88, R212, R213). -/
theorem exec_loadPointer {i : Instr} {s : State} {r : Reg} {m : Mem} {sr : Sreg}
    (h : exec i s = .next ((s.setReg16 r (s.readLow m)).setSreg sr (s.readHigh m))) :
    ∃ t, exec i s = .next t ∧ t.getReg16 r = s.readWord (s.segOf m) (s.ea m) ∧
      t.getSreg sr = s.readWord (s.segOf m) (BitVec.ofNat 16 ((s.ea m).toNat + 2)) ∧ OtherRegsKept .word r s t ∧
      OnlyRegs (s.setSreg sr (t.getSreg sr)) t := by
  have hread := State.getSreg_setSreg (s.setReg16 r (s.readLow m)) sr sr (s.readHigh m)
  rw [if_pos rfl] at hread
  refine ⟨_, h, ?_, ?_, ?_, ?_⟩
  · rw [State.setSreg_setReg16]
    exact State.getReg16_setReg16 ..
  · rw [hread, ofNat_add_two]
    rfl
  · rw [State.setSreg_setReg16]
    exact .setReg (s.getReg16_setSreg sr _) .word r _
  · rw [hread, State.setSreg_setReg16]
    exact State.setReg_only _ .word r _

/-! ## Flags in AH -/

/-- Bits 7, 6, 4, 2 and 0 of the byte that MOV AH,PSW makes, whatever the free value (R214). -/
theorem pswLowByte_bits (f : Psw) (free : Word) :
    (pswLowByte f free).getLsbD 7 = f.s ∧ (pswLowByte f free).getLsbD 6 = f.z ∧ (pswLowByte f free).getLsbD 4 = f.ac ∧
      (pswLowByte f free).getLsbD 2 = f.p ∧ (pswLowByte f free).getLsbD 0 = f.cy := by
  have hconcat : pswLowByte f free =
      (((((((BitVec.ofBool f.s).concat f.z).concat (free.getLsbD 5)).concat f.ac).concat (free.getLsbD 3)).concat
        f.p).concat (free.getLsbD 1)).concat f.cy := rfl
  simp [hconcat, BitVec.getElem_concat]

/-- The bits of AH are the high bits of AW (R32). -/
theorem State.getLsbD_ah (s : State) {k : Nat} (hk : k < 8) : s.ah.getLsbD k = s.aw.getLsbD (8 + k) := by
  simp [State.ah, State.getReg8, hiByte, hk]

/-! ## Exchanges -/

/-- The registers without halves keep their values where a byte register is written (R32). -/
theorem State.setReg_byte_pointers (s : State) {w : Width} (hw : w = .byte) (r : Reg) (v : BitVec w.bits) :
    (s.setReg w r v).sp = s.sp ∧ (s.setReg w r v).bp = s.bp ∧ (s.setReg w r v).ix = s.ix ∧
      (s.setReg w r v).iy = s.iy := by
  subst hw
  exact (s.setReg_others .byte r v).2

/-- An instruction that exchanges two registers, the same one included (R218, R220). -/
theorem exec_exchangeRegs {i : Instr} {s : State} {w : Width} {d r : Reg}
    (h : exec i s = .next ((s.setReg w d (s.getReg w r)).setReg w r (s.getReg w d))) :
    ∃ t, exec i s = .next t ∧ t.getReg w d = s.getReg w r ∧ t.getReg w r = s.getReg w d ∧
      (∀ x, x ≠ d → x ≠ r → t.getReg w x = s.getReg w x) ∧ OnlyRegs s t ∧
      (w = .byte → t.sp = s.sp ∧ t.bp = s.bp ∧ t.ix = s.ix ∧ t.iy = s.iy) := by
  refine ⟨_, h, ?_, State.getReg_setReg .., fun x hd hr => ?_, (s.setReg_only ..).trans (State.setReg_only ..),
    fun hw => ?_⟩
  · by_cases hdr : d = r
    · rw [hdr, State.getReg_setReg]
    · rw [State.getReg_setReg_other _ w _ hdr, State.getReg_setReg]
  · rw [State.getReg_setReg_other _ w _ hr, State.getReg_setReg_other _ w _ hd]
  · simp only [State.setReg_byte_pointers _ hw, and_self]

/-- An instruction that exchanges a memory operand and a register, the operand read before it is written (R219). -/
theorem exec_exchangeMem {i : Instr} {s : State} {w : Width} {m : Mem} {r : Reg} (hs : Memory.wf s.mem = true)
    (h : exec i s = .next ((s.writeOperand w m (s.getReg w r)).setReg w r (s.readOperand w m))) :
    ∃ t, exec i s = .next t ∧ t.readMem w (s.segOf m) (s.ea m) = s.getReg w r ∧
      t.getReg w r = s.readOperand w m ∧ OtherRegsKept w r s t ∧
      MemKeptOutside w.bytes (s.segOf m) (s.ea m) s t ∧ OnlyRegs { s with mem := t.mem } t := by
  refine ⟨_, h, ?_, State.getReg_setReg .., ?_, fun a ha => ?_, ?_⟩
  · rw [State.readMem_congr (State.setReg_mem ..)]
    exact State.readMem_writeMem hs ..
  · exact .setReg (s.getReg16_writeOperand w m _) w r _
  · rw [State.setReg_mem]
    exact s.writeMem_outside w _ _ _ a ha
  · rw [State.setReg_mem, State.writeOperand, ← s.writeMem_only]
    exact State.setReg_only ..

end Sys2Proof.Machine

open Sys2Proof Sys2Proof.Machine

/-- Settles O9: each load is one register write, each store one memory write. -/
theorem movesWithoutSegmentRegisters : Obligations.MovesWithoutSegmentRegisters := by
  refine ⟨fun w d r m imm => ⟨.intro fun _ => rfl, .intro fun _ => rfl, .intro fun _ => rfl, .intro fun _ => rfl,
    .intro fun _ => rfl, .intro fun _ => rfl, .intro fun _ => rfl, .intro fun s => ?trans⟩,
    fun w r m imm => ⟨.intro fun _ => rfl, .intro fun _ => rfl, .intro fun _ => rfl⟩⟩
  case trans =>
    rw [← s.add_zext16_al]
    rfl

/-- Settles O10: loads of segment registers, the two moves out of them, and the loads of pointers. -/
theorem movesOfSegmentRegistersAndPointers : Obligations.MovesOfSegmentRegistersAndPointers :=
  ⟨fun _ _ _ _ => ⟨fun hps => ⟨exec_loadSreg hps rfl, exec_loadSreg hps rfl⟩, exec_loadReg16_inhibiting rfl,
      fun hs => exec_storeWord_inhibiting hs rfl⟩,
    fun _ _ _ => ⟨exec_loadPointer (sr := .ds0) rfl, exec_loadPointer (sr := .ds1) rfl⟩⟩

/-- Settles O11: the bits of the byte stored in AH, and the bits of AH as bits 15 to 8 of AW. -/
theorem movesOfTheFlagByte : Obligations.MovesOfTheFlagByte := by
  refine ⟨fun _ => rfl, fun s => ⟨⟨_, rfl, ?_⟩, ?_⟩⟩
  · have hah : (s.setAh (pswLowByte s.psw s.free)).drawn.getReg8 .ah_sp = pswLowByte s.psw s.free :=
      s.getReg8_setReg8 .ah_sp _
    have hal : (s.setAh (pswLowByte s.psw s.free)).drawn.getReg8 .al_aw = s.getReg8 .al_aw :=
      s.getReg8_setReg8_other (r := .ah_sp) (x := .al_aw) _ (by decide)
    obtain ⟨hs, hz, hac, hp, hcy⟩ := pswLowByte_bits s.psw s.free
    rw [hah]
    exact ⟨hs, hz, hac, hp, hcy, hal, rfl⟩
  · have hbits : ∀ k < 8, s.aw.getLsbD (8 + k) = s.ah.getLsbD k := fun k hk => (s.getLsbD_ah hk).symm
    rw [hbits 7 (by decide), hbits 6 (by decide), hbits 4 (by decide), hbits 2 (by decide), hbits 0 (by decide)]
    rfl

/-- Settles O12: XCH AW,reg16 is the exchange of registers with AW as the first. -/
theorem exchangesSwapTheOperands : Obligations.ExchangesSwapTheOperands := by
  refine fun s w d r m => ⟨exec_exchangeRegs rfl, fun hs => exec_exchangeMem hs rfl, ?_⟩
  obtain ⟨t, hexec, haw, hr, hothers, honly, -⟩ := exec_exchangeRegs (i := .xchAwReg16 r) (w := .word) (d := .al_aw) rfl
  exact ⟨t, hexec, haw, hr, hothers, honly⟩

end

section
/-! SUPPORT. One element of each block instruction, what ends a repeated one and what stops it between two elements
(R240 to R253, R264, R265, R768), and the two meanings that can refuse (R246, R732). -/

namespace Sys2Proof.Machine

/-! ## One element -/

/-- Without a repeat condition a block instruction is its element (R240). -/
theorem IsBlock.exec_of_no_repeat {i : Instr} {elem : State → State} {c : Bool} (h : IsBlock i elem c) {s : State}
    (hr : s.pfx.rep = none) : Machine.exec i s = .next (elem s) := by
  rw [h.exec, State.block, hr]

/-- Under a repeat condition a block instruction is the loop counted by CW (R241). -/
theorem IsBlock.exec_of_repeat {i : Instr} {elem : State → State} {c : Bool} (h : IsBlock i elem c) {s : State} {r : Rep}
    (hr : s.pfx.rep = some r) : Machine.exec i s = .next (blockLoop elem r c s.cw.toNat s) := by
  rw [h.exec, State.block, hr]

/-- The pointer of the statements is the pointer that the elements write (R248). -/
theorem State.pointerAfter_eq (s : State) (w : Width) (p : Word) : s.pointerAfter w p = p + s.blockStep w := by
  unfold State.pointerAfter State.blockStep
  split
  · exact BitVec.sub_eq_add_neg ..
  · rfl

/-- The difference of a comparison takes no borrow (R18). -/
theorem subResult_no_borrow {n : Nat} (a b : BitVec n) : subResult a b false = a - b := by
  simp [subResult, carryIn]

/-- An element that writes its destination at DS1:IY and then changes no memory (R249, R253, R264). -/
theorem writeMem_element {s t : State} {w : Width} {v : BitVec w.bits} (hs : Memory.wf s.mem = true)
    (ht : t.mem = (s.writeMem w s.ds1 s.iy v).mem) :
    t.readMem w s.ds1 s.iy = v ∧ MemKeptOutside w.bytes s.ds1 s.iy s t := by
  refine ⟨?_, fun a ha => ?_⟩
  · rw [State.readMem_congr ht]
    exact State.readMem_writeMem hs ..
  · rw [ht]
    exact s.writeMem_outside w _ _ v a ha

/-- The flags of a comparison are those of the difference (R18). -/
theorem comparison_flags {n : Nat} (a b : BitVec n) (f : Psw) (x : Word) :
    DifferenceFlags a b false (a - b) ((subFlags a b false).apply f x) := by
  rw [← subResult_no_borrow]
  exact subFlags_spec ..

theorem movbkElem_only (w : Width) (s : State) :
    movbkElem w s =
      { s with mem := (movbkElem w s).mem, ix := s.ix + s.blockStep w, iy := s.iy + s.blockStep w } := by
  cases w <;> rfl

theorem stmElem_only (w : Width) (s : State) :
    stmElem w s = { s with mem := (stmElem w s).mem, iy := s.iy + s.blockStep w } := by
  cases w <;> rfl

theorem inmElem_mem (w : Width) (s : State) :
    (inmElem w s).mem = (s.writeMem w s.ds1 s.iy (s.portOperand w s.dw)).mem := by
  rw [inmElem_spec]
  cases w <;> rfl

theorem inmElem_only (w : Width) (s : State) :
    inmElem w s =
      { s with
        mem := (inmElem w s).mem, iy := s.iy + s.blockStep w, ioIn := s.ioIn.drop w.bytes
        ioCtr := s.ioCtr + w.bytes } := by
  rw [inmElem_spec]
  cases w <;> rfl

theorem ldmElem_eq (w : Width) (s : State) :
    ldmElem w s =
      { s with ix := s.ix + s.blockStep w }.setReg w .al_aw (s.readMem w (s.overridden .ds0) s.ix) := by
  cases w <;> rfl

theorem outmElem_eq (w : Width) (s : State) :
    outmElem w s =
      { s with
        ioOut := portWrites w s.dw (s.readMem w (s.overridden .ds0) s.ix) ++ s.ioOut
        ix := s.ix + s.blockStep w } := by
  rw [outmElem, State.ioWrite_spec]

/-! ## The stop between two elements -/

/-- An input that asks for the end of the step does so after an element too. -/
theorem IsElement.interrupted {elem : State → State} (h : IsElement elem) {s : State}
    (hi : s.nmiPending = true ∨ s.intAcceptable = true) : (elem s).decCw.interrupted = true := by
  have hnmi : (elem s).decCw.nmiPending = s.nmiPending := h.nmiPending s
  have hint : (elem s).decCw.intAcceptable = s.intAcceptable := by
    show ((elem s).pins.intLevel && (elem s).psw.ie && !(elem s).inhibitAll && !(elem s).inhibitInt) = _
    rw [h.pins, h.ie, h.inhibitAll, h.inhibitInt]
    rfl
  rw [State.interrupted, hnmi, hint]
  obtain hi | hi := hi <;> simp [hi]

/-- The loop with more than one element to do, an input that asks for the end of the step and an element that does not
end the loop: it is left after that element (R247, R768). -/
theorem IsElement.blockLoop_stops {elem : State → State} (h : IsElement elem) {r : Rep} {c : Bool} {n : Nat} {s : State}
    (hn : 2 ≤ n) (hin : s.inputs = []) (hplan : s.prefetchPlan = []) (hi : s.nmiPending = true ∨ s.intAcceptable = true)
    (hr : repStops r c (elem s).psw = false) : blockLoop elem r c n s = (elem s).decCw.suspend := by
  have hstill : (elem s).decCw.prefetch.sample = (elem s).decCw := by
    simp [State.prefetch, State.sample, h.inputs, h.prefetchPlan, hin, hplan]
  obtain ⟨k, rfl⟩ : ∃ k, n = k + 2 := ⟨n - 2, by omega⟩
  simp [blockLoop, hr, hstill, h.interrupted hi]

/-- A repeated block instruction, comparing or not, stops after the first element (R247, R768). -/
theorem IsBlock.exec_stops {i : Instr} {elem : State → State} {c : Bool} (h : IsBlock i elem c) {s u : State} {r : Rep}
    (hr : s.pfx.rep = some r) (hn : 2 ≤ s.cw.toNat) (hin : s.inputs = []) (hplan : s.prefetchPlan = [])
    (hi : s.nmiPending = true ∨ s.intAcceptable = true) (hu : RunsElements i 1 s u)
    (hgoes : repStops r c u.psw = false) :
    Machine.exec i s = .next { u with
      pc := s.pc - 1 - BitVec.ofNat 16 (min s.pfx.count 3), queue := [], suspended := true } := by
  obtain rfl : u = (elem s).decCw := (h.runsElements_succ 0 s u).1 hu
  have hpc : (elem s).decCw.pc = s.pc := h.element.pc s
  have hpfx : (elem s).decCw.pfx = s.pfx := h.element.pfx s
  rw [h.exec_of_repeat hr, h.element.blockLoop_stops hn hin hplan hi hgoes, State.suspend, hpc, hpfx]

/-! ## The two meanings that can refuse -/

/-- A repeat condition completes, or it stands after a different one and is refused (R246). -/
theorem State.repeatPrefix_completes (s : State) (r : Rep) :
    (∃ t, s.repeatPrefix r = .next t) ∨ s.pfx.rep ≠ none ∧ s.repeatPrefix r = .refused .repeatCombination := by
  by_cases h : s.pfx.rep = none ∨ s.pfx.rep = some r
  · exact .inl ⟨_, State.repeatPrefix_of_accepted h⟩
  · obtain ⟨hn, hr⟩ := not_or.1 h
    exact .inr ⟨hn, State.repeatPrefix_of_different hn hr⟩

/-- BRKEM completes, or the write enable of MD is set and it is refused (R675, R732). -/
theorem execBrkem_completes (n : Byte) (s : State) :
    (∃ t, execBrkem n s = .next t) ∨ s.mdWe = true ∧ execBrkem n s = .refused .brkemNested := by
  unfold execBrkem
  split
  · next h => exact .inr ⟨h, rfl⟩
  · exact .inl ⟨_, rfl⟩

end Sys2Proof.Machine

open Sys2Proof Sys2Proof.Machine

/-- Settles O36: without a repeat condition each instruction is its element. -/
theorem blockInstructionsDoOneElement : Obligations.BlockInstructionsDoOneElement := by
  intro s w hs hr source ix iy
  have hix : ix = s.ix + s.blockStep w := s.pointerAfter_eq w s.ix
  have hiy : iy = s.iy + s.blockStep w := s.pointerAfter_eq w s.iy
  have next {i : Instr} {elem : State → State} {c : Bool} (h : IsBlock i elem c) := h.exec_of_no_repeat hr
  rw [hix, hiy]
  refine ⟨⟨_, next ⟨movbkElem_isElement w, fun _ => rfl⟩, ?movbk⟩,
    ⟨_, next ⟨cmpbkElem_isElement w, fun _ => rfl⟩, comparison_flags .., s.flags_control _, rfl⟩,
    ⟨_, next ⟨cmpmElem_isElement w, fun _ => rfl⟩, comparison_flags .., s.flags_control _, rfl⟩,
    ⟨_, next ⟨ldmElem_isElement w, fun _ => rfl⟩, ?ldm⟩, ⟨_, next ⟨stmElem_isElement w, fun _ => rfl⟩, ?stm⟩,
    ⟨_, next ⟨inmElem_isElement w, fun _ => rfl⟩, ?inm⟩, ?outm⟩
  case movbk =>
    obtain ⟨hread, hkept⟩ := writeMem_element (t := movbkElem w s) hs rfl
    exact ⟨hread, hkept, movbkElem_only w s⟩
  case stm =>
    obtain ⟨hread, hkept⟩ := writeMem_element (t := stmElem w s) hs rfl
    exact ⟨hread, hkept, stmElem_only w s⟩
  case inm =>
    obtain ⟨hread, hkept⟩ := writeMem_element hs (inmElem_mem w s)
    exact ⟨hread, hkept, inmElem_only w s⟩
  case ldm =>
    rw [ldmElem_eq]
    exact ⟨State.getReg_setReg .., State.setReg_others .., .trans (t := { s with ix := _ }) rfl (State.setReg_only ..)⟩
  case outm => rw [next ⟨outmElem_isElement w, fun _ => rfl⟩, outmElem_eq]

/-- Settles O37: the loop, by induction on the count in `IsBlock.loop_transfer` and `IsBlock.loop_compare`. -/
theorem repeatRunsElementByElement : Obligations.RepeatRunsElementByElement := by
  intro s w r i hs hr
  refine ⟨fun hi _ => ?transfer, fun hi => ?compare⟩
  case transfer =>
    obtain ⟨elem, h⟩ := isBlock_transfer hi
    exact ⟨_, h.exec_of_repeat hr, h.loop_transfer r _ s hs⟩
  case compare =>
    obtain ⟨elem, h⟩ := isBlock_compare hi
    obtain ⟨n, hruns, hle, hends, hgoes⟩ := h.loop_compare r s.cw.toNat s hs
    exact ⟨_, n, h.exec_of_repeat hr, hruns, hle, hends, hgoes⟩

/-- Settles O38: an element changes neither what asks for the end of the step nor PC and the prefixes. -/
theorem repeatStopsBetweenElements : Obligations.RepeatStopsBetweenElements := by
  intro s u w r i hr hn hin hplan hi hblock hu
  obtain hmem | ⟨hmem, hends⟩ := hblock
  · obtain ⟨elem, h⟩ := isBlock_transfer hmem
    exact h.exec_stops hr hn hin hplan hi hu rfl
  · obtain ⟨elem, h⟩ := isBlock_compare hmem
    exact h.exec_stops hr hn hin hplan hi hu (Bool.eq_false_iff.2 (mt (repStops_iff r _).1 hends))

/-- Settles O54: every meaning but those of the repeat prefixes and of BRKEM answers a next state on each path. -/
theorem everyOtherInstructionCompletes : Obligations.EveryOtherInstructionCompletes := by
  intro i s
  cases i with
  | repc | repnc | rep | repne =>
    obtain hnext | hrefused := s.repeatPrefix_completes _
    · exact .inl hnext
    · exact .inr (.inl ⟨by simp, hrefused⟩)
  | brkem n =>
    obtain hnext | hrefused := execBrkem_completes n s
    · exact .inl hnext
    · exact .inr (.inr ⟨⟨n, rfl⟩, hrefused⟩)
  | _ => exact .inl ⟨_, rfl⟩

end

section
/-! SUPPORT. Bit fields (R254 to R259): the field in the two words as bits and as a number, and what INS and EXT write in
the envelope of R255. -/

namespace Sys2Proof.Machine

/-! ## The field in two words -/

theorem toNat_fieldMask {len : Nat} (h : len ≤ 16) : (fieldMask len).toNat = 2 ^ len - 1 := by
  have hpos : 0 < 2 ^ len := Nat.two_pow_pos len
  have hle : 2 ^ len ≤ 2 ^ 16 := Nat.pow_le_pow_right (by decide) h
  rw [fieldMask, Nat.one_shiftLeft, BitVec.natCast_eq_ofNat]
  generalize 2 ^ len = n at *
  bv_omega

theorem getLsbD_fieldMask {len : Nat} (h : len ≤ 16) (k : Nat) : (fieldMask len).getLsbD k = decide (k < len) := by
  rw [BitVec.getLsbD, toNat_fieldMask h, Nat.testBit_two_pow_sub_one]

/-- Insertion bit by bit: the low bits of the word in the field, the old bits around it (R256). -/
theorem getLsbD_insertField {d : BitVec 32} {v : Word} {off len k : Nat} (hl : len ≤ 16) (hk : k < 32) :
    (insertField d v off len).getLsbD k =
      if off ≤ k ∧ k < off + len then v.getLsbD (k - off) else d.getLsbD k := by
  have hword : k - off < 32 := by omega
  simp only [insertField, BitVec.getLsbD_or, BitVec.getLsbD_and, BitVec.getLsbD_not, BitVec.getLsbD_shiftLeft,
    BitVec.getLsbD_setWidth, getLsbD_fieldMask hl, hk, hword]
  split
  · next hin =>
    have hoff : ¬k < off := by omega
    have hlen : k - off < len := by omega
    simp [hoff, hlen]
  · next hout =>
    have hlen : ¬k < off → ¬k - off < len := by omega
    by_cases hoff : k < off
    · simp [hoff]
    · simp [hlen hoff]

/-- A bit of two words is one of the low or of the high word. -/
theorem getLsbD_words (high low : Word) (k : Nat) :
    BitVec.getLsbD (w := 32) (high ++ low) k = if k < 16 then low.getLsbD k else high.getLsbD (k - 16) :=
  BitVec.getLsbD_append

/-- A field inside the low word leaves the high word (R254). -/
theorem insertField_low (high low v : Word) {off len : Nat} (h : off + len ≤ 16) :
    high ++ (insertField (zext16 0 ++ low) v off len).setWidth 16 = insertField (high ++ low) v off len := by
  have hl : len ≤ 16 := by omega
  apply BitVec.eq_of_getLsbD_eq
  intro k hk
  rw [BitVec.getLsbD_append, getLsbD_insertField hl hk, getLsbD_words]
  by_cases hlow : k < 16
  · simp [hlow, getLsbD_insertField hl hk, getLsbD_words]
  · have hout : ¬(off ≤ k ∧ k < off + len) := by omega
    simp [hlow, hout]

/-- Two words are their high and their low word. -/
theorem extractLsb'_append_setWidth (d : BitVec 32) : d.extractLsb' 16 16 ++ d.setWidth 16 = d := by
  apply BitVec.eq_of_getLsbD_eq
  intro k hk
  rw [BitVec.getLsbD_append]
  by_cases hlow : k < 16
  · simp [hlow]
  · have hhigh : k - 16 < 16 := by omega
    simp [hlow, hhigh, Nat.add_sub_cancel' (Nat.not_lt.1 hlow)]

/-- A field inside the low word does not depend on the high word (R254). -/
theorem extractField_low (high low : Word) {off len : Nat} (h : off + len ≤ 16) :
    extractField (zext16 0 ++ low) off len = extractField (high ++ low) off len := by
  apply BitVec.eq_of_getLsbD_eq
  intro k _
  simp only [extractField, BitVec.getLsbD_setWidth, BitVec.getLsbD_and, BitVec.getLsbD_ushiftRight, getLsbD_words,
    getLsbD_fieldMask (show len ≤ 16 by omega)]
  by_cases hlen : k < len
  · have hlow : off + k < 16 := by omega
    simp [hlow]
  · simp [hlen]

/-- Extraction as a number (R258). -/
theorem toNat_extractField (d : BitVec 32) (off : Nat) {len : Nat} (hl : len ≤ 16) :
    (extractField d off len).toNat = d.toNat / 2 ^ off % 2 ^ len := by
  have hlt : d.toNat / 2 ^ off % 2 ^ len < 2 ^ 16 :=
    (Nat.mod_lt _ (Nat.two_pow_pos len)).trans_le (Nat.pow_le_pow_right (by decide) hl)
  rw [extractField, BitVec.toNat_setWidth, BitVec.toNat_and, toNat_fieldMask hl, Nat.and_two_pow_sub_one_eq_mod,
    BitVec.toNat_ushiftRight, Nat.shiftRight_eq_div_pow, Nat.mod_eq_of_lt hlt]

/-- The two words as a number (R254). -/
theorem State.toNat_fieldWords (s : State) (seg off : Word) :
    (s.fieldWords seg off).toNat = (s.readWord seg (off + 2)).toNat * 65536 + (s.readWord seg off).toNat := by
  rw [State.fieldWords, BitVec.toNat_append, ← Nat.shiftLeft_add_eq_or_of_lt (BitVec.isLt _), Nat.shiftLeft_eq]

/-! ## The two words in memory -/

theorem State.fieldWords_congr {s t : State} (h : t.mem = s.mem) (seg off : Word) :
    t.fieldWords seg off = s.fieldWords seg off := by
  simp only [State.fieldWords, State.readWord_congr h]

/-- A write of the low word leaves the high word. -/
theorem State.fieldWords_writeWord_low {s : State} (hs : Memory.wf s.mem = true) (seg off v : Word) :
    (s.writeWord seg off v).fieldWords seg off = s.readWord seg (off + 2) ++ v := by
  have hhigh : (s.writeWord seg off v).readWord seg (off + 2) = s.readWord seg (off + 2) :=
    (s.writeWord_outside seg off v).readWord (fun k hk => by bv_omega) fun k hk => by bv_omega
  rw [State.fieldWords, hhigh, State.readWord_writeWord hs]

/-- A write of the high word leaves the low word. -/
theorem State.fieldWords_writeWord_high {s : State} (hs : Memory.wf s.mem = true) (seg off v : Word) :
    (s.writeWord seg (off + 2) v).fieldWords seg off = v ++ s.readWord seg off := by
  have hlow : (s.writeWord seg (off + 2) v).readWord seg off = s.readWord seg off :=
    (s.writeWord_outside seg (off + 2) v).readWord (fun k hk => by bv_omega) fun k hk => by bv_omega
  rw [State.fieldWords, hlow, State.readWord_writeWord hs]

/-- Writes of two words, one after the other in a segment, leave what is outside the four bytes. -/
theorem State.writeWord_writeWord_outside (s : State) (seg off v w : Word) :
    MemKeptOutside 4 seg off s ((s.writeWord seg off v).writeWord seg (off + 2) w) := by
  intro a ha
  rw [State.writeWord_outside _ _ _ _ a, State.writeWord_outside _ _ _ _ a fun k hk => ha k (by omega)]
  intro k hk
  have hfar := ha (2 + k) (by omega)
  rwa [BitVec.ofNat_add, ← BitVec.add_assoc] at hfar

/-! ## INS -/

/-- The memory of INS in the envelope: the second word is written only where the field reaches it (R254, R256). -/
def State.fieldStored (s : State) (off len : Nat) : State :=
  if off + len ≤ 16 then
    s.writeWord s.ds1 s.iy ((insertField (zext16 0 ++ s.readWord s.ds1 s.iy) s.aw off len).setWidth 16)
  else
    let d := insertField (s.fieldWords s.ds1 s.iy) s.aw off len
    (s.writeWord s.ds1 s.iy (d.setWidth 16)).writeWord s.ds1 (s.iy + 2) (d.extractLsb' 16 16)

/-- Wherever the field ends, the two words hold it inserted (R256). -/
theorem State.fieldStored_words {s : State} (hs : Memory.wf s.mem = true) (off len : Nat) :
    (s.fieldStored off len).fieldWords s.ds1 s.iy = insertField (s.fieldWords s.ds1 s.iy) s.aw off len := by
  unfold State.fieldStored
  split
  · next h =>
    rw [State.fieldWords_writeWord_low hs, insertField_low _ _ _ h]
    rfl
  · rw [State.fieldWords_writeWord_high (State.writeWord_wf hs ..), State.readWord_writeWord hs,
      extractLsb'_append_setWidth]

theorem State.fieldStored_outside (s : State) (off len : Nat) :
    MemKeptOutside (if off + len ≤ 16 then 2 else 4) s.ds1 s.iy s (s.fieldStored off len) := by
  unfold State.fieldStored
  split
  · exact s.writeWord_outside _ _ _
  · exact s.writeWord_writeWord_outside _ _ _ _

theorem State.fieldStored_only (s : State) (off len : Nat) :
    s.fieldStored off len = { s with mem := (s.fieldStored off len).mem } := by
  unfold State.fieldStored
  split <;> rfl

/-- The envelope of R255. -/
theorem fieldOperandsOk_of_lt {off lenm1 : Byte} (ho : off.toNat < 16) (hl : lenm1.toNat < 16) :
    fieldOperandsOk off lenm1 = true := by
  simp [fieldOperandsOk, ho, hl]

/-- INS in the envelope stores the field, and the offset register and IY go past it (R256). -/
theorem State.insertBits_of_ok {s : State} {r : Reg} {lenm1 : Byte} (ho : (s.getReg8 r).toNat < 16)
    (hl : lenm1.toNat < 16) :
    s.insertBits r lenm1 =
      { (s.fieldStored (s.getReg8 r).toNat (lenm1.toNat + 1)).setReg8 r
          (BitVec.ofNat 8 (((s.getReg8 r).toNat + (lenm1.toNat + 1)) % 16)) with
        iy := nextFieldOffset s.iy (s.getReg8 r).toNat (lenm1.toNat + 1) }.flags allUndefined := by
  unfold State.insertBits State.fieldStored
  rw [if_pos (fieldOperandsOk_of_lt ho hl)]
  split <;> rfl

/-- The offset register after a field as a number (R254). -/
theorem toNat_nextOffset (n : Nat) : (BitVec.ofNat 8 (n % 16)).toNat = n % 16 := by
  rw [BitVec.toNat_ofNat]
  omega

/-- An instruction that inserts a field (R256, R257). -/
theorem exec_insertBits {i : Instr} {s : State} {r : Reg} {lenm1 : Byte} (h : exec i s = .next (s.insertBits r lenm1))
    (hs : Memory.wf s.mem = true) (ho : (s.getReg8 r).toNat < 16) (hl : lenm1.toNat < 16) :
    let off := (s.getReg8 r).toNat
    let len := lenm1.toNat + 1
    ∃ t, exec i s = .next t ∧
      (∀ k, k < 32 → (t.fieldWords s.ds1 s.iy).getLsbD k =
        if off ≤ k ∧ k < off + len then s.aw.getLsbD (k - off) else (s.fieldWords s.ds1 s.iy).getLsbD k) ∧
      (t.getReg8 r).toNat = (off + len) % 16 ∧ (∀ x, x ≠ r → t.getReg8 x = s.getReg8 x) ∧
      t.iy = nextFieldOffset s.iy off len ∧
      MemKeptOutside (if off + len ≤ 16 then 2 else 4) s.ds1 s.iy s t ∧ ControlKept s t ∧
      t = { s with
        aw := t.aw, bw := t.bw, cw := t.cw, dw := t.dw, iy := t.iy, mem := t.mem, psw := t.psw
        freeCtr := t.freeCtr } := by
  intro off len
  rw [h, State.insertBits_of_ok ho hl]
  have houtside := s.fieldStored_outside off len
  have hwords := State.fieldStored_words hs off len
  obtain ⟨mem, hstored⟩ : ∃ mem, s.fieldStored off len = { s with mem := mem } := ⟨_, s.fieldStored_only off len⟩
  rw [hstored] at hwords houtside ⊢
  have hreg := State.setReg_others { s with mem := mem } .byte r (BitVec.ofNat 8 ((off + len) % 16))
  have hmem := State.setReg8_mem { s with mem := mem } r (BitVec.ofNat 8 ((off + len) % 16))
  refine ⟨_, rfl, fun k hk => ?bits, ?offset, fun x hx => ?others, rfl, fun a ha => ?kept, ?control, ?only⟩
  case bits =>
    rw [← getLsbD_insertField (show len ≤ 16 by omega) hk, ← hwords]
    exact congrArg (BitVec.getLsbD · k) (State.fieldWords_congr hmem s.ds1 s.iy)
  case offset => exact (congrArg BitVec.toNat (State.getReg8_setReg8 ..)).trans (toNat_nextOffset (off + len))
  case others => exact hreg.1 x hx
  case kept => exact (congrArg (Memory.read · a) hmem).trans (houtside a ha)
  case control => cases r <;> exact ⟨rfl, rfl, rfl, rfl⟩
  case only => cases r <;> rfl

/-! ## EXT -/

theorem regInAw_of_ne {r : Reg} (hl : r ≠ .al_aw) (hh : r ≠ .ah_sp) : regInAw r = false := by
  cases r with
  | al_aw | ah_sp => contradiction
  | _ => rfl

/-- AW keeps its value where another byte register is written (R32). -/
theorem State.setReg8_aw_other (s : State) {r : Reg} (v : Byte) (hl : r ≠ .al_aw) (hh : r ≠ .ah_sp) :
    (s.setReg8 r v).aw = s.aw := by
  cases r with
  | al_aw | ah_sp => contradiction
  | _ => rfl

/-- The byte registers other than AL and AH keep their values where AW is written (R32). -/
theorem State.getReg8_of_aw (s : State) {x : Reg} (v : Word) (hl : x ≠ .al_aw) (hh : x ≠ .ah_sp) :
    { s with aw := v }.getReg8 x = s.getReg8 x := by
  cases x with
  | al_aw | ah_sp => contradiction
  | _ => rfl

/-- Wherever the field ends, EXT reads it from the two words (R258). -/
theorem State.extractField_words (s : State) (seg o : Word) (off len : Nat) :
    extractField (if off + len ≤ 16 then zext16 0 ++ s.readWord seg o else s.fieldWords seg o) off len =
      extractField (s.fieldWords seg o) off len := by
  split
  · next h => exact extractField_low _ _ h
  · rfl

/-- EXT in the envelope loads AW with the field, and the offset register and IX go past it (R258). -/
theorem State.extractBits_of_ok {s : State} {r : Reg} {lenm1 : Byte} (ho : (s.getReg8 r).toNat < 16)
    (hl : lenm1.toNat < 16) :
    s.extractBits r lenm1 true =
      { { s with aw := extractField (s.fieldWords (s.overridden .ds0) s.ix) (s.getReg8 r).toNat (lenm1.toNat + 1)
          }.setReg8 r (BitVec.ofNat 8 (((s.getReg8 r).toNat + (lenm1.toNat + 1)) % 16)) with
        ix := nextFieldOffset s.ix (s.getReg8 r).toNat (lenm1.toNat + 1) }.flags allUndefined := by
  rw [State.extractBits, Bool.true_and, if_pos (fieldOperandsOk_of_lt ho hl), ← State.extractField_words]

/-- An instruction that extracts a field (R258, R259). -/
theorem exec_extractBits {i : Instr} {s : State} {r : Reg} {lenm1 : Byte}
    (h : exec i s = .next (s.extractBits r lenm1 true)) (hal : r ≠ .al_aw) (hah : r ≠ .ah_sp)
    (ho : (s.getReg8 r).toNat < 16) (hl : lenm1.toNat < 16) :
    let off := (s.getReg8 r).toNat
    let len := lenm1.toNat + 1
    let seg := s.overridden .ds0
    ∃ t, exec i s = .next t ∧
      t.aw.toNat = ((s.readWord seg (s.ix + 2)).toNat * 65536 + (s.readWord seg s.ix).toNat) / 2 ^ off % 2 ^ len ∧
      (t.getReg8 r).toNat = (off + len) % 16 ∧
      (∀ x, x ≠ r → x ≠ .al_aw → x ≠ .ah_sp → t.getReg8 x = s.getReg8 x) ∧
      t.ix = nextFieldOffset s.ix off len ∧ ControlKept s t ∧
      t = { s with
        aw := t.aw, bw := t.bw, cw := t.cw, dw := t.dw, ix := t.ix, psw := t.psw, freeCtr := t.freeCtr } := by
  intro off len seg
  rw [h, State.extractBits_of_ok ho hl, ← State.toNat_fieldWords, ← toNat_extractField _ _ (show len ≤ 16 by omega)]
  refine ⟨_, rfl, ?aw, ?offset, fun x hx hxl hxh => ?others, rfl, ?control, ?only⟩
  case aw => exact congrArg BitVec.toNat (State.setReg8_aw_other _ _ hal hah)
  case offset => exact (congrArg BitVec.toNat (State.getReg8_setReg8 ..)).trans (toNat_nextOffset (off + len))
  case others => exact (State.getReg8_setReg8_other _ _ hx).trans (s.getReg8_of_aw _ hxl hxh)
  case control => cases r <;> exact ⟨rfl, rfl, rfl, rfl⟩
  case only => cases r <;> rfl

/-- With an offset and a length register other than AL and AH the operands of EXT are in the envelope (R255, R258). -/
theorem execExtReg8Reg8_of_ne {r1 r2 : Reg} (s : State) (hal : r1 ≠ .al_aw) (hah : r1 ≠ .ah_sp) (hal2 : r2 ≠ .al_aw)
    (hah2 : r2 ≠ .ah_sp) : execExtReg8Reg8 r1 r2 s = .next (s.extractBits r1 (s.getReg8 r2) true) := by
  rw [execExtReg8Reg8, regInAw_of_ne hal hah, regInAw_of_ne hal2 hah2]
  rfl

theorem execExtReg8Imm4_of_ne {r : Reg} (n : Byte) (s : State) (hal : r ≠ .al_aw) (hah : r ≠ .ah_sp) :
    execExtReg8Imm4 r n s = .next (s.extractBits r n true) := by
  rw [execExtReg8Imm4, regInAw_of_ne hal hah]
  rfl

end Sys2Proof.Machine

open Sys2Proof Sys2Proof.Machine

/-- Settles O34: the two forms of INS and of EXT take the length from a register or from the instruction. -/
theorem bitFields : Obligations.BitFields :=
  ⟨fun _ _ _ _ hs => ⟨exec_insertBits rfl hs, exec_insertBits rfl hs⟩, fun _ _ _ _ hal hah =>
    ⟨fun hal2 hah2 => exec_extractBits (execExtReg8Reg8_of_ne _ hal hah hal2 hah2) hal hah,
      exec_extractBits (execExtReg8Imm4_of_ne _ _ hal hah) hal hah⟩⟩

end

section
/-! SUPPORT. ADD, ADDC, SUB and SUBC in registers and in memory (R300 to R327), and what ADJ4A makes of the sum of two
packed decimal bytes (R392). -/

namespace Sys2Proof

theorem Width.bits_pos (w : Width) : 0 < w.bits := by
  cases w <;> decide

end Sys2Proof

namespace Sys2Proof.Machine

/-! ## The eight operations (R152 (a)) -/

/-- The result and the flags of each of the eight operations, in the words of Sys2Proof/Safety.lean. -/
def IsAluResult {n : Nat} (op : AluOp) (cy : Bool) (a b r : BitVec n) (f : Psw) : Prop :=
  match op with
  | .add => IsSum a b false r f
  | .addc => IsSum a b cy r f
  | .sub | .cmp => IsDifference a b false r f
  | .subc => IsDifference a b cy r f
  | .or => r = a ||| b ∧ LogicFlagsOf r f
  | .and => r = a &&& b ∧ LogicFlagsOf r f
  | .xor => r = a ^^^ b ∧ LogicFlagsOf r f

theorem aluEffect_spec {n : Nat} (hn : 0 < n) (op : AluOp) (cy : Bool) (a b : BitVec n) (f : Psw) (x : Word) :
    IsAluResult op cy a b (aluResult op cy a b) ((aluEffect op cy a b).apply f x) := by
  cases op with
  | add | addc => exact addFlags_spec _ _ _ _ _ hn
  | sub | cmp | subc => exact subResult_spec _ _ _ _ _ hn
  | or | and | xor => exact ⟨rfl, logicFlags_spec _ _ _⟩

/-- An instruction that is an operation with a register destination (R300). -/
theorem PutsReg.alu {i : Instr} {w : Width} {d : Reg} {b : State → BitVec w.bits} (op : AluOp)
    (h : ∀ s, exec i s = .next (s.aluReg op w d (b s))) :
    PutsReg i w d fun s v f => IsAluResult op s.psw.cy (s.getReg w d) (b s) v f :=
  .intro _ _ h fun _ => aluEffect_spec w.bits_pos ..

/-- An instruction that is an operation with a memory destination (R303). -/
theorem PutsMem.alu {i : Instr} {w : Width} {m : Mem} {b : State → BitVec w.bits} (op : AluOp)
    (h : ∀ s, exec i s = .next (s.aluMem op w m (b s))) :
    PutsMem i w m fun s v f => IsAluResult op s.psw.cy (s.readOperand w m) (b s) v f :=
  .intro _ _ h fun _ => aluEffect_spec w.bits_pos ..

/-! ## ADJ4A -/

/-- AL after the first step of ADJ4A, before it is cut to a byte (R392). -/
def adj4aLow (al : Nat) (ac : Bool) : Nat := if 9 < al % 16 ∨ ac = true then al + 6 else al

/-- The CY that ADJ4A sets: its second step is made (R392). -/
def adj4aCarry (al : Nat) (ac cy : Bool) : Bool := decide (0x9F < adj4aLow al ac) || cy

/-- AL after both steps of ADJ4A (R392). -/
def adj4aResult (al : Nat) (ac cy : Bool) : Nat :=
  (if adj4aCarry al ac cy = true then adj4aLow al ac + 0x60 else adj4aLow al ac) % 256

/-- The first step of ADJ4A in numbers; the carry out of it is kept with CY (R392). -/
theorem adj4a_firstStep (al : Byte) (ac cy : Bool) :
    let low := decide (9 < al.toNat % 16) || ac
    let al1 := if low then al + 6 else al
    al1.toNat = adj4aLow al.toNat ac % 256 ∧
      adjustsHigh al1 (cy || low && decide (0x100 ≤ al.toNat + 6)) = adj4aCarry al.toNat ac cy := by
  intro low al1
  have hal := al.isLt
  have hadd : (al + 6).toNat = (al.toNat + 6) % 256 := BitVec.toNat_add ..
  have hlow : low = true ↔ 9 < al.toNat % 16 ∨ ac = true := by simp [low]
  by_cases h : low = true
  · simp only [al1, adj4aCarry, adj4aLow, adjustsHigh, if_pos h, if_pos (hlow.1 h), hadd, h, Bool.true_and,
      true_and]
    rw [Bool.eq_iff_iff]
    cases cy <;> simp; omega
  · simp only [al1, adj4aCarry, adj4aLow, adjustsHigh, if_neg h, if_neg (mt hlow.2 h), Nat.mod_eq_of_lt hal,
      true_and]
    simp [h]

/-- ADJ4A in numbers (R392). -/
theorem exec_adj4a (s : State) :
    ∃ (al : Byte) (e : FlagEffect), exec .adj4a s = .next ((s.setAl al).flags e) ∧
      al.toNat = adj4aResult s.al.toNat s.psw.ac s.psw.cy ∧
      e.cy = .put (adj4aCarry s.al.toNat s.psw.ac s.psw.cy) := by
  obtain ⟨hal, hcy⟩ := adj4a_firstStep s.al s.psw.ac s.psw.cy
  refine ⟨_, _, rfl, ?_, congrArg FlagChange.put hcy⟩
  rw [State.adjustsLow, hcy, adj4aResult]
  split
  · rw [BitVec.toNat_add, hal, Nat.mod_add_mod]
    rfl
  · exact hal

/-- The two digits of a packed decimal byte as a number (R330). -/
def packedDecimal (b : Nat) : Nat := b / 16 * 10 + b % 16

/-- ADJ4A after a sum whose digits, not yet carried, are `hi` and `lo` (R392). -/
theorem adj4a_of_digits {hi lo : Nat} (hhi : hi ≤ 18) (hlo : lo ≤ 18) :
    let al := (16 * hi + lo) % 256
    let ac := decide (16 ≤ lo)
    let cy := decide (256 ≤ 16 * hi + lo)
    packedDecimal (adj4aResult al ac cy) = (10 * hi + lo) % 100 ∧
      adj4aCarry al ac cy = decide (100 ≤ 10 * hi + lo) ∧
      adj4aResult al ac cy % 16 ≤ 9 ∧ adj4aResult al ac cy / 16 ≤ 9 := by
  intro al ac cy
  have hlow : adj4aLow al ac = if 10 ≤ lo then al + 6 else al := by
    unfold adj4aLow
    congr 1
    simp only [al, ac, decide_eq_true_eq, eq_iff_iff]
    omega
  have hcarry : adj4aCarry al ac cy = decide (100 ≤ 10 * hi + lo) := by
    rw [Bool.eq_iff_iff, adj4aCarry, hlow]
    simp only [al, cy, decide_eq_true_eq, Bool.or_eq_true]
    split <;> omega
  have hresult : ∃ r1 r0, adj4aResult al ac cy = 16 * r1 + r0 ∧ r1 ≤ 9 ∧ r0 ≤ 9 ∧
      10 * r1 + r0 = (10 * hi + lo) % 100 := by
    refine ⟨(hi + lo / 10) % 10, lo % 10, ?_, ?_, ?_, ?_⟩
    · rw [adj4aResult, hlow, hcarry]
      simp only [al, decide_eq_true_eq]
      split <;> split <;> omega
    all_goals omega
  obtain ⟨r1, r0, hr, hr1, hr0, hsum⟩ := hresult
  rw [hr, hcarry, packedDecimal, ← hsum]
  exact ⟨by omega, rfl, by omega, by omega⟩

/-- ADJ4A corrects AL after the sum of two packed decimal bytes (R392). -/
theorem adj4a_of_sum {a b al : Nat} {ac cy : Bool} (ha : a % 16 ≤ 9) (ha' : a / 16 ≤ 9) (hb : b % 16 ≤ 9)
    (hb' : b / 16 ≤ 9) (hal : al = (a + b) % 256) (hac : ac = decide (16 ≤ a % 16 + b % 16))
    (hcy : cy = decide (256 ≤ a + b)) :
    packedDecimal (adj4aResult al ac cy) = (packedDecimal a + packedDecimal b) % 100 ∧
      adj4aCarry al ac cy = decide (100 ≤ packedDecimal a + packedDecimal b) ∧
      adj4aResult al ac cy % 16 ≤ 9 ∧ adj4aResult al ac cy / 16 ≤ 9 := by
  have hdigits := adj4a_of_digits (Nat.add_le_add ha' hb') (Nat.add_le_add ha hb)
  have hbinary : 16 * (a / 16 + b / 16) + (a % 16 + b % 16) = a + b := by omega
  have hdecimal : 10 * (a / 16 + b / 16) + (a % 16 + b % 16) = packedDecimal a + packedDecimal b := by
    unfold packedDecimal
    omega
  rwa [hbinary, hdecimal, ← hal, ← hac, ← hcy] at hdigits

end Sys2Proof.Machine

open Sys2Proof Sys2Proof.Machine

/-- Settles O13: each form is an addition to its register, of the operand that the form names. -/
theorem additionsToRegisters : Obligations.AdditionsToRegisters := fun _ _ _ _ _ _ =>
  ⟨.alu .add fun _ => rfl, .alu .add fun _ => rfl, .alu .add fun _ => rfl, .alu .add fun _ => rfl,
    .alu .add fun _ => rfl, .alu .addc fun _ => rfl, .alu .addc fun _ => rfl, .alu .addc fun _ => rfl,
    .alu .addc fun _ => rfl, .alu .addc fun _ => rfl⟩

/-- Settles O14: each form is a subtraction from its register, of the operand that the form names. -/
theorem subtractionsFromRegisters : Obligations.SubtractionsFromRegisters := fun _ _ _ _ _ _ =>
  ⟨.alu .sub fun _ => rfl, .alu .sub fun _ => rfl, .alu .sub fun _ => rfl, .alu .sub fun _ => rfl,
    .alu .sub fun _ => rfl, .alu .subc fun _ => rfl, .alu .subc fun _ => rfl, .alu .subc fun _ => rfl,
    .alu .subc fun _ => rfl, .alu .subc fun _ => rfl⟩

/-- Settles O15: each form reads its memory operand once and writes it once, at one address. -/
theorem additionsAndSubtractionsInMemory : Obligations.AdditionsAndSubtractionsInMemory := fun _ _ _ _ _ =>
  ⟨.alu .add fun _ => rfl, .alu .add fun _ => rfl, .alu .addc fun _ => rfl, .alu .addc fun _ => rfl,
    .alu .sub fun _ => rfl, .alu .sub fun _ => rfl, .alu .subc fun _ => rfl, .alu .subc fun _ => rfl⟩

/-- Settles O26: ADD leaves the flags of the binary sum, from which ADJ4A finds the decimal one. -/
theorem addThenAdjustIsDecimal : Obligations.AddThenAdjustIsDecimal := by
  intro s t u r _ ha ha' hb hb' ht hu decimal
  obtain ⟨t', ht', ⟨hsum, ⟨-, hac, -⟩, hcy⟩, -⟩ :=
    (additionsToRegisters .byte .al_aw r (.ind .bw) .b80 0).1 s
  obtain rfl : t = t' := Host.Outcome.next.inj (ht.symm.trans ht')
  obtain ⟨al, e, hadj, hal, he⟩ := exec_adj4a t
  obtain rfl : u = (t.setAl al).flags e := Host.Outcome.next.inj (hu.symm.trans hadj)
  obtain ⟨hdecimal, hcarry, hlow, hhigh⟩ := adj4a_of_sum ha ha' hb hb' hsum hac hcy
  have hread : ((t.setAl al).flags e).getReg8 .al_aw = al :=
    ((t.setAl al).getReg_flags e .byte .al_aw).trans (t.getReg8_setReg8 .al_aw al)
  have hu : ((t.setAl al).flags e).psw.cy = adj4aCarry t.al.toNat t.psw.ac t.psw.cy := by
    rw [State.flags_psw, FlagEffect.apply, he]
    rfl
  rw [hread, hu]
  show packedDecimal al.toNat = _ ∧ _
  rw [hal]
  exact ⟨hdecimal, hcarry, hlow, hhigh⟩

end

section
/-! SUPPORT. The nibble rotations (R340 to R344): three digits in an operand and in AL. -/

namespace Sys2Proof.Machine

/-! ## Nibbles -/

theorem toNat_hiNibble (b : Byte) : (hiNibble b).toNat = b.toNat / 16 := by
  have hb := b.isLt
  rw [hiNibble, BitVec.extractLsb'_toNat, Nat.shiftRight_eq_div_pow]
  omega

theorem toNat_loNibble (b : Byte) : (loNibble b).toNat = b.toNat % 16 := by
  rw [loNibble, BitVec.extractLsb'_toNat, Nat.shiftRight_zero]

/-- Two nibbles as a byte. -/
theorem toNat_nibbles (h l : BitVec 4) : (h ++ l : Byte).toNat = h.toNat * 16 + l.toNat := by
  rw [BitVec.toNat_append, ← Nat.shiftLeft_add_eq_or_of_lt l.isLt, Nat.shiftLeft_eq]

theorem State.toNat_al_mod (s : State) : s.al.toNat % 16 = s.aw.toNat % 16 := by
  have hal : s.al.toNat = s.aw.toNat % 256 := toNat_loByte s.aw
  omega

theorem toNat_rol4Operand (s : State) (t : Byte) :
    (rol4Operand t s.al).toNat = t.toNat % 16 * 16 + s.aw.toNat % 16 := by
  rw [rol4Operand, toNat_nibbles, toNat_loNibble, toNat_loNibble, s.toNat_al_mod]

theorem toNat_ror4Operand (s : State) (t : Byte) :
    (ror4Operand t s.al).toNat = s.aw.toNat % 16 * 16 + t.toNat / 16 := by
  rw [ror4Operand, toNat_nibbles, toNat_loNibble, toNat_hiNibble, s.toNat_al_mod]

/-! ## AL after a rotation -/

/-- The digit that leaves the operand is the low digit of AL (R340). -/
theorem State.setAlDigit_digit (s : State) (digit : BitVec 4) : (s.setAlDigit digit).aw.toNat % 16 = digit.toNat := by
  have hdigit := digit.isLt
  have hal : (s.setAlDigit digit).al = hiNibble (loByte s.free) ++ digit := s.getReg8_setReg8 .al_aw _
  rw [← State.toNat_al_mod, hal, toNat_nibbles]
  omega

/-- The other byte registers keep their values. -/
theorem State.setAlDigit_others (s : State) (digit : BitVec 4) {x : Reg} (hx : x ≠ .al_aw) :
    (s.setAlDigit digit).getReg8 x = s.getReg8 x := s.getReg8_setReg8_other _ hx

theorem State.setAlDigit_only (s : State) (digit : BitVec 4) :
    s.setAlDigit digit =
      { s with aw := (s.setAlDigit digit).aw, freeCtr := (s.setAlDigit digit).freeCtr } := rfl

/-- A rotation of a register other than AL (R341, R343). -/
theorem exec_rotateReg {i : Instr} {s : State} {r : Reg} {operand : Byte} {digit : BitVec 4} {n k : Nat}
    (h : exec i s = .next (s.rotateDigitReg r operand digit)) (hr : r ≠ .al_aw) (hn : operand.toNat = n)
    (hk : digit.toNat = k) :
    ∃ t, exec i s = .next t ∧ (t.getReg8 r).toNat = n ∧ t.aw.toNat % 16 = k ∧
      (∀ x, x ≠ r → x ≠ .al_aw → t.getReg8 x = s.getReg8 x) ∧
      t = { s with aw := t.aw, bw := t.bw, cw := t.cw, dw := t.dw, freeCtr := t.freeCtr } := by
  rw [State.rotateDigitReg, if_neg hr] at h
  refine ⟨_, h, ?_, (State.setAlDigit_digit ..).trans hk, fun x hxr hx => ?_, ?_⟩
  · rw [State.setAlDigit_others _ _ hr, State.getReg8_setReg8, hn]
  · rw [State.setAlDigit_others _ _ hx, s.getReg8_setReg8_other _ hxr]
  · cases r <;> rfl

/-- A rotation of AL leaves AH (U5). -/
theorem exec_rotateAl {i : Instr} {s : State} {operand : Byte} {digit : BitVec 4}
    (h : exec i s = .next (s.rotateDigitReg .al_aw operand digit)) :
    ∃ t, exec i s = .next t ∧ t.getReg8 .ah_sp = s.getReg8 .ah_sp ∧
      t = { s with aw := t.aw, freeCtr := t.freeCtr } := by
  rw [State.rotateDigitReg, if_pos rfl] at h
  exact ⟨_, h, s.getReg8_setReg8_other (r := .al_aw) (x := .ah_sp) _ (by decide), rfl⟩

/-- A rotation of a memory operand (R342, R344). -/
theorem exec_rotateMem {i : Instr} {s : State} {m : Mem} {operand : Byte} {digit : BitVec 4} {n k : Nat}
    (h : exec i s = .next ((s.writeOperand .byte m operand).setAlDigit digit)) (hs : Memory.wf s.mem = true)
    (hn : operand.toNat = n) (hk : digit.toNat = k) :
    ∃ t, exec i s = .next t ∧ (t.readByte (s.segOf m) (s.ea m)).toNat = n ∧ t.aw.toNat % 16 = k ∧
      t.getReg8 .ah_sp = s.getReg8 .ah_sp ∧ MemKeptOutside 1 (s.segOf m) (s.ea m) s t ∧
      t = { s with aw := t.aw, mem := t.mem, freeCtr := t.freeCtr } := by
  have hread : (s.writeByte (s.segOf m) (s.ea m) operand).readByte (s.segOf m) (s.ea m) = operand :=
    State.readMem_writeMem hs .byte _ _ _
  exact ⟨_, h, (congrArg BitVec.toNat hread).trans hn, (State.setAlDigit_digit ..).trans hk,
    State.setAlDigit_others _ _ (by decide), s.writeMem_outside .byte (s.segOf m) (s.ea m) operand, rfl⟩

end Sys2Proof.Machine

open Sys2Proof Sys2Proof.Machine

/-- Settles O20: ROL4 and ROR4 are rotations by one digit, of a register or of memory. -/
theorem nibbleRotations : Obligations.NibbleRotations := by
  refine fun s r m => ⟨fun hr => ⟨?_, ?_⟩, fun i hi => ?_, fun hs => ⟨?_, ?_⟩⟩
  · exact exec_rotateReg rfl hr (toNat_rol4Operand s _) (toNat_hiNibble _)
  · exact exec_rotateReg rfl hr (toNat_ror4Operand s _) (toNat_loNibble _)
  · obtain rfl | rfl := hi <;> exact exec_rotateAl rfl
  · exact exec_rotateMem rfl hs (toNat_rol4Operand s _) (toNat_hiNibble _)
  · exact exec_rotateMem rfl hs (toNat_ror4Operand s _) (toNat_loNibble _)

end

section
/-! SUPPORT. The packed BCD strings (R330 to R334): what the three instructions leave alone, and what their loop makes
of strings of decimal digits. -/

namespace Sys2Proof.Machine

/-! ## What the string instructions leave alone -/

/-- The offset of the next byte of a string. -/
theorem ofNat_add_one (k : Nat) : (BitVec.ofNat 16 k + 1 : Word) = BitVec.ofNat 16 (k + 1) :=
  (BitVec.ofNat_add k 1).symm

/-- CL is odd (R331). -/
theorem State.cl_getLsbD_zero (s : State) : s.cl.getLsbD 0 = true ↔ s.cl.toNat % 2 = 1 := by
  rw [BitVec.getLsbD, Nat.testBit_zero, decide_eq_true_eq]

/-- Nothing but the first `n` bytes of the destination string and the count of free values differs. -/
structure StringOnly (n : Nat) (s t : State) : Prop where
  mem : MemKeptOutside n s.ds1 s.iy s t
  rest : t = { s with mem := t.mem, freeCtr := t.freeCtr }

namespace StringOnly

variable {n : Nat} {s t : State}

theorem refl : StringOnly n s s := ⟨fun _ _ => rfl, rfl⟩

theorem ds1 (h : StringOnly n s t) : t.ds1 = s.ds1 := by rw [h.rest]

theorem iy (h : StringOnly n s t) : t.iy = s.iy := by rw [h.rest]

theorem cl (h : StringOnly n s t) : t.cl = s.cl := by rw [h.rest]; rfl

theorem ix (h : StringOnly n s t) : t.ix = s.ix := by rw [h.rest]

theorem overridden (h : StringOnly n s t) (sr : Sreg) : t.overridden sr = s.overridden sr := by
  rw [h.rest]
  cases sr <;> rfl

theorem bcdBytes (h : StringOnly n s t) : t.bcdBytes = s.bcdBytes := by rw [h.rest]; rfl

theorem drawn (h : StringOnly n s t) : StringOnly n s t.drawn := ⟨h.mem, by rw [h.rest]; rfl⟩

/-- A byte of the string is written. -/
theorem writeByte (h : StringOnly n s t) {k : Nat} (hk : k < n) (v : Byte) :
    StringOnly n s (t.writeByte t.ds1 (t.iy + BitVec.ofNat 16 k) v) where
  mem a ha := by
    rw [h.ds1, h.iy]
    exact (Memory.read_write_other _ _ _ _ (ha k hk)).trans (h.mem a ha)
  rest := by rw [h.rest]; rfl

theorem bcdLoop (sub store : Bool) {m k : Nat} (hm : k + m ≤ n) {r : BcdRun} (h : StringOnly n s r.state) :
    StringOnly n s (bcdLoop sub store m (BitVec.ofNat 16 k) r).state := by
  induction m generalizing k r with
  | zero => exact h
  | succ m ih =>
    rw [Machine.bcdLoop, ofNat_add_one]
    refine ih (by omega) ?_
    dsimp only
    split
    · exact h.writeByte (by omega) _
    · exact h

theorem freeString (h : StringOnly n s t) {m k : Nat} (hm : k + m ≤ n) :
    StringOnly n s (freeString m (BitVec.ofNat 16 k) t) := by
  induction m generalizing k t with
  | zero => exact h
  | succ m ih =>
    rw [Machine.freeString, ofNat_add_one]
    exact ih (h.writeByte (by omega) _).drawn (by omega)

theorem freeTopNibble (h : StringOnly n s t) (hn : t.bcdBytes - 1 < n) : StringOnly n s t.freeTopNibble :=
  (h.writeByte hn _).drawn

/-- A change of flags after it. -/
theorem flags (h : StringOnly n s t) (e : FlagEffect) :
    MemKeptOutside n s.ds1 s.iy s (t.flags e) ∧ ControlKept s (t.flags e) ∧
      t.flags e = { s with mem := (t.flags e).mem, psw := (t.flags e).psw, freeCtr := (t.flags e).freeCtr } := by
  refine ⟨h.mem, ?_, ?_⟩
  · rw [h.rest]
    exact ⟨rfl, rfl, rfl, rfl⟩
  · rw [h.rest]
    rfl

end StringOnly

/-- CMP4S stores nothing (R334). -/
theorem bcdLoop_state_of_compare (sub : Bool) (m : Nat) (i : Word) (r : BcdRun) :
    (bcdLoop sub false m i r).state = r.state := by
  induction m generalizing i r with
  | zero => rfl
  | succ m ih => exact ih ..

/-- Whatever the operands, a string instruction writes no more than the destination string, and then the flags (R331,
D38). -/
theorem State.bcdString_only (s : State) (sub store : Bool) :
    ∃ u e, s.bcdString sub store = u.flags e ∧ StringOnly s.bcdBytes s u := by
  have hloop : StringOnly s.bcdBytes s (bcdLoop sub store s.bcdBytes 0 ⟨s, 0, true⟩).state :=
    StringOnly.bcdLoop sub store (k := 0) (Nat.zero_add _).le .refl
  unfold State.bcdString
  dsimp only
  split
  · refine ⟨_, _, rfl, ?_⟩
    split
    · next hodd =>
      have hcl := s.cl_getLsbD_zero.1 (Bool.and_eq_true_iff.1 hodd).2
      have hbytes : s.bcdBytes = (s.cl.toNat + 1) / 2 := rfl
      refine hloop.freeTopNibble ?_
      rw [hloop.bcdBytes]
      omega
    · exact hloop
  · refine ⟨_, _, rfl, ?_⟩
    split
    · exact StringOnly.refl.freeString (k := 0) (Nat.zero_add _).le
    · exact .refl

/-- The frame of a string instruction (R331, D38). -/
theorem State.bcdString_frame (s : State) (sub store : Bool) :
    MemKeptOutside s.bcdBytes s.ds1 s.iy s (s.bcdString sub store) ∧ ControlKept s (s.bcdString sub store) ∧
      s.bcdString sub store = { s with
        mem := (s.bcdString sub store).mem, psw := (s.bcdString sub store).psw
        freeCtr := (s.bcdString sub store).freeCtr } := by
  obtain ⟨u, e, he, honly⟩ := s.bcdString_only sub store
  rw [he]
  exact honly.flags e

theorem State.bcdString_mem_of_compare (s : State) (sub : Bool) : (s.bcdString sub false).mem = s.mem := by
  unfold State.bcdString
  split
  · exact (congrArg State.mem (bcdLoop_state_of_compare sub s.bcdBytes 0 ⟨s, 0, true⟩) :)
  · rfl

/-! ## Digits -/

theorem isBcdByte_iff (b : Byte) : isBcdByte b = true ↔ b.toNat % 16 ≤ 9 ∧ b.toNat / 16 ≤ 9 := by
  rw [isBcdByte, Bool.and_eq_true, decide_eq_true_eq, decide_eq_true_eq, loDigit, hiDigit]

/-- The sign with which the source string counts: plus for ADD4S, minus for SUB4S and CMP4S (R332 to R334). -/
def bcdSign (sub : Bool) : Int := if sub then -1 else 1

/-- One digit of the sum or difference (R331). -/
theorem bcdDigit_spec (sub : Bool) {a b c : Nat} (ha : a ≤ 9) (hb : b ≤ 9) (hc : c ≤ 1) :
    ((bcdDigit sub a b c).1 : Int) = a + bcdSign sub * (b + c) - bcdSign sub * 10 * (bcdDigit sub a b c).2 ∧
      (bcdDigit sub a b c).1 ≤ 9 ∧ (bcdDigit sub a b c).2 ≤ 1 := by
  cases sub
  · simp only [bcdDigit, bcdSign, Bool.false_eq_true, if_false]
    split <;> dsimp only <;> omega
  · simp only [bcdDigit, bcdSign, if_true]
    split <;> dsimp only <;> omega

/-- The byte of two digits. -/
theorem toNat_digits {h l : Nat} (hh : h ≤ 9) (hl : l ≤ 9) :
    (BitVec.ofNat 8 (h * 16 + l)).toNat = h * 16 + l := by
  rw [BitVec.toNat_ofNat]
  omega

/-- One byte of the sum or difference (R331). -/
theorem bcdByte_spec (sub : Bool) {a b : Byte} {c : Nat} (ha : isBcdByte a = true) (hb : isBcdByte b = true)
    (hc : c ≤ 1) :
    (packedDecimal (bcdByte sub a b c).1.toNat : Int) =
        packedDecimal a.toNat + bcdSign sub * (packedDecimal b.toNat + c) -
          bcdSign sub * 100 * (bcdByte sub a b c).2 ∧
      isBcdByte (bcdByte sub a b c).1 = true ∧ (bcdByte sub a b c).2 ≤ 1 := by
  obtain ⟨hal, hah⟩ := (isBcdByte_iff a).1 ha
  obtain ⟨hbl, hbh⟩ := (isBcdByte_iff b).1 hb
  obtain ⟨hlo, hlo9, hlo1⟩ := bcdDigit_spec sub hal hbl hc
  obtain ⟨hhi, hhi9, hhi1⟩ := bcdDigit_spec sub hah hbh hlo1
  unfold bcdByte
  dsimp only [loDigit, hiDigit]
  generalize bcdDigit sub (a.toNat % 16) (b.toNat % 16) c = lo at *
  generalize bcdDigit sub (a.toNat / 16) (b.toNat / 16) lo.2 = hi at *
  have hdecimal : packedDecimal (hi.1 * 16 + lo.1) = hi.1 * 10 + lo.1 := by
    unfold packedDecimal
    omega
  rw [isBcdByte_iff, toNat_digits hhi9 hlo9, hdecimal]
  refine ⟨?_, by omega, hhi1⟩
  simp only [packedDecimal]
  push_cast at *
  linear_combination 10 * hhi + hlo

/-! ## Numbers of many digits -/

theorem packedDecimal_eq_zero (b : Byte) : packedDecimal b.toNat = 0 ↔ b = 0 := by
  have hzero : b = 0 ↔ b.toNat = 0 := BitVec.toNat_eq
  rw [hzero, packedDecimal]
  omega

theorem bcdNibble_two_mul (f : Nat → Byte) (k : Nat) : bcdNibble f (2 * k) = (f k).toNat % 16 := by
  simp [bcdNibble]

theorem bcdNibble_two_mul_add_one (f : Nat → Byte) (k : Nat) : bcdNibble f (2 * k + 1) = (f k).toNat / 16 := by
  rw [bcdNibble, if_neg (by omega), show (2 * k + 1) / 2 = k by omega]

/-- Two more digits of a string are one more byte (R330). -/
theorem bcdNumber_succ_byte (f : Nat → Byte) (k : Nat) :
    bcdNumber f (2 * (k + 1)) = bcdNumber f (2 * k) + packedDecimal (f k).toNat * 100 ^ k := by
  have hpow : 10 ^ (2 * k) = 100 ^ k := pow_mul 10 2 k
  rw [Nat.mul_add_one, bcdNumber, bcdNumber, bcdNibble_two_mul, bcdNibble_two_mul_add_one, pow_succ, hpow,
    packedDecimal]
  ring

/-- All nibbles of the bytes are decimal digits where the bytes are packed decimal. -/
theorem bcdNibble_le_of_bytes {f : Nat → Byte} {m : Nat} (h : ∀ j < m, isBcdByte (f j) = true) {k : Nat}
    (hk : k < 2 * m) : bcdNibble f k ≤ 9 := by
  obtain ⟨hlow, hhigh⟩ := (isBcdByte_iff _).1 (h (k / 2) (by omega))
  unfold bcdNibble
  split
  · exact hlow
  · exact hhigh

theorem bcdNumber_congr {f g : Nat → Byte} {n : Nat} (h : ∀ k < n, bcdNibble f k = bcdNibble g k) :
    bcdNumber f n = bcdNumber g n := by
  induction n with
  | zero => rfl
  | succ n ih => rw [bcdNumber, bcdNumber, ih fun k hk => h k (by omega), h n (by omega)]

theorem bcdNumber_lt {f : Nat → Byte} {n : Nat} (h : ∀ k < n, bcdNibble f k ≤ 9) : bcdNumber f n < 10 ^ n := by
  induction n with
  | zero => exact Nat.one_pos
  | succ n ih =>
    have hdigit := Nat.mul_le_mul_right (10 ^ n) (h n (by omega))
    have hrest := ih fun k hk => h k (by omega)
    rw [bcdNumber, pow_succ]
    omega

/-- The low digits of a number are the number modulo a power of ten. -/
theorem bcdNumber_mod {f : Nat → Byte} {n m : Nat} (h : ∀ k < n, bcdNibble f k ≤ 9) (hm : n ≤ m) :
    bcdNumber f m % 10 ^ n = bcdNumber f n := by
  induction m, hm using Nat.le_induction with
  | base => exact Nat.mod_eq_of_lt (bcdNumber_lt h)
  | succ m hm ih =>
    obtain ⟨q, hq⟩ := pow_dvd_pow 10 hm
    rw [bcdNumber, hq, Nat.mul_left_comm, Nat.add_mul_mod_self_left, ih]

/-! ## The sum or difference of two strings -/

/-- The carry or borrow into the byte `k` (R331). -/
def bcdCarryAt (sub : Bool) (a b : Nat → Byte) : Nat → Nat
  | 0 => 0
  | k + 1 => (bcdByte sub (a k) (b k) (bcdCarryAt sub a b k)).2

/-- The byte `k` of the sum or difference (R331). -/
def bcdResultAt (sub : Bool) (a b : Nat → Byte) (k : Nat) : Byte :=
  (bcdByte sub (a k) (b k) (bcdCarryAt sub a b k)).1

section Strings

variable {sub : Bool} {a b : Nat → Byte} {m : Nat}

theorem bcdCarryAt_le (ha : ∀ j < m, isBcdByte (a j) = true) (hb : ∀ j < m, isBcdByte (b j) = true) :
    ∀ k ≤ m, bcdCarryAt sub a b k ≤ 1
  | 0, _ => Nat.zero_le 1
  | k + 1, hk =>
    have ⟨_, _, hcarry⟩ := bcdByte_spec sub (ha k hk) (hb k hk) (bcdCarryAt_le ha hb k (by omega))
    hcarry

theorem bcdResultAt_isBcdByte (ha : ∀ j < m, isBcdByte (a j) = true) (hb : ∀ j < m, isBcdByte (b j) = true)
    {k : Nat} (hk : k < m) : isBcdByte (bcdResultAt sub a b k) = true :=
  have ⟨_, hbyte, _⟩ := bcdByte_spec sub (ha k hk) (hb k hk) (bcdCarryAt_le ha hb k (by omega))
  hbyte

/-- The bytes are the sum or difference of the two numbers, less the carry (R331). -/
theorem bcdNumber_bcdResultAt (ha : ∀ j < m, isBcdByte (a j) = true) (hb : ∀ j < m, isBcdByte (b j) = true) :
    ∀ k ≤ m, (bcdNumber (bcdResultAt sub a b) (2 * k) : Int) =
      bcdNumber a (2 * k) + bcdSign sub * bcdNumber b (2 * k) - bcdSign sub * 100 ^ k * bcdCarryAt sub a b k
  | 0, _ => by simp [bcdNumber, bcdCarryAt]
  | k + 1, hk => by
    have ih := bcdNumber_bcdResultAt ha hb k (by omega)
    obtain ⟨hbyte, -, -⟩ := bcdByte_spec sub (ha k hk) (hb k hk) (bcdCarryAt_le (sub := sub) ha hb k (by omega))
    simp only [bcdNumber_succ_byte, bcdCarryAt, bcdResultAt] at ih ⊢
    push_cast
    linear_combination ih + 100 ^ k * hbyte

end Strings

/-! ## The loop -/

/-- The destination string with its first `k` bytes replaced. -/
def State.stringStored (s : State) (f : Nat → Byte) : Nat → State
  | 0 => s
  | k + 1 => (s.stringStored f k).writeByte (s.stringStored f k).ds1 ((s.stringStored f k).iy + BitVec.ofNat 16 k) (f k)

theorem State.stringStored_only (s : State) (f : Nat → Byte) {n : Nat} :
    ∀ k ≤ n, StringOnly n s (s.stringStored f k)
  | 0, _ => .refl
  | k + 1, hk => (s.stringStored_only f k (by omega)).writeByte hk _

theorem State.stringStored_wf {s : State} (hs : Memory.wf s.mem = true) (f : Nat → Byte) :
    ∀ k, Memory.wf (s.stringStored f k).mem = true
  | 0 => hs
  | k + 1 => State.writeByte_wf (State.stringStored_wf hs f k) ..

/-- A byte that no offset of the replaced ones names reads as before. -/
theorem StringOnly.readByte {n : Nat} {s t : State} (h : StringOnly n s t) {seg off : Word}
    (hfar : ∀ j < n, phys s.ds1 (s.iy + BitVec.ofNat 16 j) ≠ phys seg off) :
    t.readByte seg off = s.readByte seg off :=
  h.mem _ fun j hj heq => hfar j hj (BitVec.eq_of_toNat_eq heq.symm)

/-- Two bytes of a string are at different addresses. -/
theorem phys_string_ne {seg off : Word} {j k : Nat} (hj : j < 65536) (hk : k < 65536) (hne : j ≠ k) :
    phys seg (off + BitVec.ofNat 16 j) ≠ phys seg (off + BitVec.ofNat 16 k) := by
  rw [Ne, phys_inj]
  bv_omega

/-- The destination string after a write of its byte `k`. -/
theorem State.bcdDestAt_writeByte {t : State} (ht : Memory.wf t.mem = true) {j k : Nat} (hj : j < 65536)
    (hk : k < 65536) (v : Byte) :
    (t.writeByte t.ds1 (t.iy + BitVec.ofNat 16 k) v).bcdDestAt j = if j = k then v else t.bcdDestAt j := by
  refine (State.read_writeByte ht t.ds1 (t.iy + BitVec.ofNat 16 k) v _).trans ?_
  by_cases hjk : j = k
  · rw [hjk, if_pos rfl]
    exact if_pos rfl
  · rw [if_neg hjk]
    exact if_neg fun heq => phys_string_ne hj hk hjk (BitVec.eq_of_toNat_eq heq)

/-- A replaced byte reads as stored. -/
theorem State.bcdDestAt_stringStored {s : State} (hs : Memory.wf s.mem = true) (f : Nat → Byte) {j k : Nat}
    (hj : j < k) (hk : k ≤ 65536) : (s.stringStored f k).bcdDestAt j = f j := by
  induction k with
  | zero => omega
  | succ k ih =>
    rw [State.stringStored, State.bcdDestAt_writeByte (State.stringStored_wf hs f k) (by omega) (by omega)]
    split
    · next hjk => rw [hjk]
    · exact ih (by omega) (by omega)

/-- The bytes of the sum or difference of the two strings of a state. -/
def State.bcdResult (s : State) (sub : Bool) : Nat → Byte := bcdResultAt sub s.bcdDestAt s.bcdSourceAt

/-- The carry or borrow into the byte `k` of the strings of a state. -/
def State.bcdCarry (s : State) (sub : Bool) : Nat → Nat := bcdCarryAt sub s.bcdDestAt s.bcdSourceAt

/-- What the loop carries after `k` bytes (R331). -/
def State.bcdRunAt (s : State) (sub store : Bool) (k : Nat) : BcdRun :=
  { state := if store then s.stringStored (s.bcdResult sub) k else s
    carry := s.bcdCarry sub k
    zero := decide (bcdNumber (s.bcdResult sub) (2 * k) = 0) }

theorem State.bcdBytes_le (s : State) : s.bcdBytes ≤ 128 := by
  have hcl := s.cl.isLt
  have hbytes : s.bcdBytes = (s.cl.toNat + 1) / 2 := rfl
  omega

/-- The loop reads the bytes that the strings had at first: those of the destination are stored to after they are read,
those of the source are no bytes stored to before (R331). -/
theorem State.bcdRunAt_reads {s : State} {store : Bool} (hstore : store = true → s.BcdApart) (sub : Bool) {k : Nat}
    (hk : k < s.bcdBytes) :
    (s.bcdRunAt sub store k).state.bcdDest (BitVec.ofNat 16 k) = s.bcdDestAt k ∧
      (s.bcdRunAt sub store k).state.bcdSource (BitVec.ofNat 16 k) = s.bcdSourceAt k := by
  have hbytes := s.bcdBytes_le
  cases store with
  | false => exact ⟨rfl, rfl⟩
  | true =>
    have honly := s.stringStored_only (s.bcdResult sub) k le_rfl
    have hstate : (s.bcdRunAt sub true k).state = s.stringStored (s.bcdResult sub) k := rfl
    rw [hstate, State.bcdDest, State.bcdSource, honly.ds1, honly.iy, honly.overridden, honly.ix]
    exact ⟨honly.readByte fun j hj => phys_string_ne (by omega) (by omega) (by omega),
      honly.readByte fun j hj => hstore rfl j k hj hk⟩

theorem State.bcdRunAt_succ {s : State} {store : Bool} (sub : Bool) (k : Nat) :
    s.bcdRunAt sub store (k + 1) =
      let r := s.bcdRunAt sub store k
      let x := bcdByte sub (s.bcdDestAt k) (s.bcdSourceAt k) r.carry
      { state := if store then r.state.writeByte r.state.ds1 (r.state.iy + BitVec.ofNat 16 k) x.1 else r.state
        carry := x.2
        zero := r.zero && x.1 == 0 } := by
  have hzero : decide (bcdNumber (s.bcdResult sub) (2 * (k + 1)) = 0) =
      (decide (bcdNumber (s.bcdResult sub) (2 * k) = 0) && s.bcdResult sub k == 0) := by
    rw [Bool.eq_iff_iff, bcdNumber_succ_byte]
    simp [packedDecimal_eq_zero]
  cases store <;> exact congrArg (BcdRun.mk _ _) hzero

/-- The loop over the bytes from the `k`-th on (R331). -/
theorem State.bcdLoop_bcdRunAt {s : State} {store : Bool} (hstore : store = true → s.BcdApart) (sub : Bool)
    {m k : Nat} (hm : k + m ≤ s.bcdBytes) :
    bcdLoop sub store m (BitVec.ofNat 16 k) (s.bcdRunAt sub store k) = s.bcdRunAt sub store (k + m) := by
  induction m generalizing k with
  | zero => rfl
  | succ m ih =>
    obtain ⟨hdest, hsource⟩ := State.bcdRunAt_reads hstore sub (show k < s.bcdBytes by omega)
    rw [bcdLoop, hdest, hsource, ofNat_add_one, show k + (m + 1) = k + 1 + m by omega, ← ih (by omega),
      State.bcdRunAt_succ]

/-! ## The instructions on decimal operands (R331) -/

theorem State.BcdOperands.isBcdByte {s : State} (h : s.BcdOperands) {j : Nat} (hj : j < s.bcdBytes) :
    isBcdByte (s.bcdDestAt j) = true ∧ isBcdByte (s.bcdSourceAt j) = true := by
  obtain ⟨-, -, hdigits⟩ := h
  have hbytes : s.bcdBytes = (s.cl.toNat + 1) / 2 := rfl
  obtain ⟨hdestLow, hsourceLow⟩ := hdigits (2 * j) (by omega)
  obtain ⟨hdestHigh, hsourceHigh⟩ := hdigits (2 * j + 1) (by omega)
  rw [bcdNibble_two_mul] at hdestLow hsourceLow
  rw [bcdNibble_two_mul_add_one] at hdestHigh hsourceHigh
  exact ⟨(isBcdByte_iff _).2 ⟨hdestLow, hdestHigh⟩, (isBcdByte_iff _).2 ⟨hsourceLow, hsourceHigh⟩⟩

theorem State.BcdOperands.inEnvelope {s : State} (h : s.BcdOperands) : s.bcdInEnvelope = true := by
  have hbytes : (List.range s.bcdBytes).all (fun k =>
      Machine.isBcdByte (s.bcdDest (BitVec.ofNat 16 k)) &&
        Machine.isBcdByte (s.bcdSource (BitVec.ofNat 16 k))) = true :=
    List.all_eq_true.2 fun j hj => Bool.and_eq_true_iff.2 (h.isBcdByte (List.mem_range.1 hj))
  obtain ⟨hone, hmax, -⟩ := h
  rw [State.bcdInEnvelope, hbytes, decide_eq_true hone, decide_eq_true hmax]
  rfl

/-- A string instruction on decimal operands (R331 to R334). -/
theorem State.bcdString_of_operands {s : State} (h : s.BcdOperands) {store : Bool}
    (hstore : store = true → s.BcdApart) (sub : Bool) :
    s.bcdString sub store =
      (if (store && s.cl.getLsbD 0) = true then (s.bcdRunAt sub store s.bcdBytes).state.freeTopNibble
        else (s.bcdRunAt sub store s.bcdBytes).state).flags
        (bcdFlags (s.bcdRunAt sub store s.bcdBytes).zero (s.bcdCarry sub s.bcdBytes == 1)) := by
  have hstart : s.bcdRunAt sub store 0 = ⟨s, 0, true⟩ := by cases store <;> rfl
  have hloop := State.bcdLoop_bcdRunAt hstore sub (Nat.zero_add s.bcdBytes).le
  rw [Nat.zero_add, hstart] at hloop
  rw [State.bcdString, if_pos h.inEnvelope]
  dsimp only
  rw [show (0 : Word) = BitVec.ofNat 16 0 from rfl, hloop]
  rfl

/-- The digits of the string other than the free one are kept (U4). -/
theorem State.bcdNibble_freeTopNibble {t : State} (ht : Memory.wf t.mem = true) (hodd : t.cl.toNat % 2 = 1) {k : Nat}
    (hk : k < t.cl.toNat) : bcdNibble t.freeTopNibble.bcdDestAt k = bcdNibble t.bcdDestAt k := by
  have hbytes : t.bcdBytes = (t.cl.toNat + 1) / 2 := rfl
  have hcl := t.cl.isLt
  have hbyte : t.freeTopNibble.bcdDestAt (k / 2) = if k / 2 = t.bcdBytes - 1 then
      hiNibble (loByte t.free) ++ loNibble (t.bcdDestAt (t.bcdBytes - 1)) else t.bcdDestAt (k / 2) :=
    State.bcdDestAt_writeByte ht (by omega) (by omega) _
  unfold bcdNibble
  by_cases htop : k / 2 = t.bcdBytes - 1
  · have heven : k % 2 = 0 := by omega
    rw [if_pos heven, if_pos heven, hbyte, if_pos htop, htop, toNat_nibbles, toNat_loNibble]
    omega
  · rw [hbyte, if_neg htop]

/-- The digits that ADD4S and SUB4S store are those of the sum or difference, the free nibble of an odd number of digits
not among them (R331, U4). -/
theorem State.bcdNibble_bcdString {s : State} (hs : Memory.wf s.mem = true) (h : s.BcdOperands) (hapart : s.BcdApart)
    (sub : Bool) {k : Nat} (hk : k < s.cl.toNat) :
    bcdNibble (s.bcdString sub true).bcdDestAt k = bcdNibble (s.bcdResult sub) k := by
  have hbytes : s.bcdBytes = (s.cl.toNat + 1) / 2 := rfl
  have hle := s.bcdBytes_le
  have honly := s.stringStored_only (s.bcdResult sub) s.bcdBytes le_rfl
  have hwf := State.stringStored_wf hs (s.bcdResult sub) s.bcdBytes
  have hstored : bcdNibble (s.stringStored (s.bcdResult sub) s.bcdBytes).bcdDestAt k =
      bcdNibble (s.bcdResult sub) k := by
    unfold bcdNibble
    rw [State.bcdDestAt_stringStored hs _ (show k / 2 < s.bcdBytes by omega) (by omega)]
  rw [State.bcdString_of_operands h (fun _ => hapart), ← hstored]
  split
  · next hodd =>
    rw [Bool.true_and, s.cl_getLsbD_zero] at hodd
    rw [← honly.cl] at hodd hk
    exact State.bcdNibble_freeTopNibble hwf hodd hk
  · rfl

/-- The number that a string instruction makes of decimal operands, the carry or borrow out of it, the flags and the
digits stored (R331 to R334). -/
theorem State.bcdString_values {s : State} (h : s.BcdOperands) {store : Bool}
    (hstore : store = true → Memory.wf s.mem = true ∧ s.BcdApart) (sub : Bool) :
    ∃ r c : Nat, r < 10 ^ (2 * s.bcdBytes) ∧ c ≤ 1 ∧
      (r : Int) = bcdNumber s.bcdDestAt (2 * s.bcdBytes) + bcdSign sub * bcdNumber s.bcdSourceAt (2 * s.bcdBytes) -
        bcdSign sub * 10 ^ (2 * s.bcdBytes) * c ∧
      (s.bcdString sub store).psw.z = decide (r = 0) ∧ (s.bcdString sub store).psw.cy = decide (c = 1) ∧
      (store = true → bcdNumber (s.bcdString sub store).bcdDestAt s.cl.toNat = r % 10 ^ s.cl.toNat ∧
        ∀ k, k < s.cl.toNat → bcdNibble (s.bcdString sub store).bcdDestAt k ≤ 9) := by
  have hbytes : s.bcdBytes = (s.cl.toNat + 1) / 2 := rfl
  have hdst : ∀ j < s.bcdBytes, isBcdByte (s.bcdDestAt j) = true := fun j hj => (h.isBcdByte hj).1
  have hsrc : ∀ j < s.bcdBytes, isBcdByte (s.bcdSourceAt j) = true := fun j hj => (h.isBcdByte hj).2
  have hdigits : ∀ k < 2 * s.bcdBytes, bcdNibble (s.bcdResult sub) k ≤ 9 :=
    fun k hk => bcdNibble_le_of_bytes (fun j hj => bcdResultAt_isBcdByte hdst hsrc hj) hk
  have hpow : (10 : Int) ^ (2 * s.bcdBytes) = 100 ^ s.bcdBytes := pow_mul 10 2 _
  refine ⟨bcdNumber (s.bcdResult sub) (2 * s.bcdBytes), s.bcdCarry sub s.bcdBytes, bcdNumber_lt hdigits,
    bcdCarryAt_le hdst hsrc _ le_rfl, ?_, ?_, ?_, fun hst => ?_⟩
  · rw [hpow]
    exact bcdNumber_bcdResultAt hdst hsrc _ le_rfl
  · rw [State.bcdString_of_operands h (fun hst => (hstore hst).2)]
    rfl
  · rw [State.bcdString_of_operands h (fun hst => (hstore hst).2)]
    rfl
  · subst hst
    obtain ⟨hs, hapart⟩ := hstore rfl
    have hnibble := fun k hk => State.bcdNibble_bcdString hs h hapart sub (k := k) hk
    refine ⟨?_, fun k hk => (hnibble k hk).trans_le (hdigits k (by omega))⟩
    rw [bcdNumber_congr hnibble, bcdNumber_mod (fun k hk => hdigits k (by omega)) (by omega)]

/-- A sum and what is carried out of it. -/
theorem sum_of_carry {r c d e m : Nat} (h : r + m * c = d + e) (hr : r < m) (hc : c ≤ 1) :
    (d + e) % m = r ∧ (c = 1 ↔ m ≤ d + e) := by
  rw [← h, Nat.add_mul_mod_self_left, Nat.mod_eq_of_lt hr]
  obtain rfl | rfl : c = 0 ∨ c = 1 := by omega
  all_goals omega

/-- A difference and what is borrowed for it. -/
theorem difference_of_borrow {r c d e m : Nat} (h : r + e = d + m * c) (hr : r < m) (he : e < m) (hc : c ≤ 1) :
    (r = 0 ↔ d = e) ∧ (c = 1 ↔ d < e) := by
  obtain rfl | rfl : c = 0 ∨ c = 1 := by omega
  all_goals omega

/-- ADD4S on decimal operands (R332). -/
theorem State.bcdString_add {s : State} (hs : Memory.wf s.mem = true) (h : s.BcdOperands) (hapart : s.BcdApart) :
    let total := bcdNumber s.bcdDestAt (2 * s.bcdBytes) + bcdNumber s.bcdSourceAt (2 * s.bcdBytes)
    bcdNumber (s.bcdString false true).bcdDestAt s.cl.toNat = total % 10 ^ s.cl.toNat ∧
      (∀ k, k < s.cl.toNat → bcdNibble (s.bcdString false true).bcdDestAt k ≤ 9) ∧
      (s.bcdString false true).psw.z = decide (total % 10 ^ (2 * s.bcdBytes) = 0) ∧
      (s.bcdString false true).psw.cy = decide (10 ^ (2 * s.bcdBytes) ≤ total) := by
  intro total
  have hbytes : s.bcdBytes = (s.cl.toNat + 1) / 2 := rfl
  obtain ⟨r, c, hr, hc, hvalue, hz, hcy, hstored⟩ := State.bcdString_values h (fun _ => ⟨hs, hapart⟩) false
  obtain ⟨hnumber, hdigits⟩ := hstored rfl
  have htotal : (total : Int) = bcdNumber s.bcdDestAt (2 * s.bcdBytes) + bcdNumber s.bcdSourceAt (2 * s.bcdBytes) :=
    Nat.cast_add ..
  have hsum : r + 10 ^ (2 * s.bcdBytes) * c = total := by
    simp only [bcdSign, Bool.false_eq_true, if_false] at hvalue
    zify
    linear_combination hvalue - htotal
  obtain ⟨hmod, hcarry⟩ := sum_of_carry hsum hr hc
  refine ⟨?_, hdigits, ?_, hcy.trans (decide_eq_decide.2 hcarry)⟩
  · rw [hnumber, ← hmod, Nat.mod_mod_of_dvd _ (pow_dvd_pow 10 (by omega))]
  · rw [hz, hmod]

/-- The difference of decimal operands and the borrow for it (R333, R334). -/
theorem State.bcdString_sub {s : State} (h : s.BcdOperands) {store : Bool}
    (hstore : store = true → Memory.wf s.mem = true ∧ s.BcdApart) :
    let dst := bcdNumber s.bcdDestAt (2 * s.bcdBytes)
    let src := bcdNumber s.bcdSourceAt (2 * s.bcdBytes)
    (s.bcdString true store).psw.z = decide (dst = src) ∧ (s.bcdString true store).psw.cy = decide (dst < src) ∧
      (store = true →
        (bcdNumber (s.bcdString true store).bcdDestAt s.cl.toNat : Int) = ((dst : Int) - src) % 10 ^ s.cl.toNat ∧
          ∀ k, k < s.cl.toNat → bcdNibble (s.bcdString true store).bcdDestAt k ≤ 9) := by
  intro dst src
  have hbytes : s.bcdBytes = (s.cl.toNat + 1) / 2 := rfl
  obtain ⟨r, c, hr, hc, hvalue, hz, hcy, hstored⟩ := State.bcdString_values h hstore true
  have hdiff : r + src = dst + 10 ^ (2 * s.bcdBytes) * c := by
    simp only [bcdSign, if_true] at hvalue
    zify
    linear_combination hvalue
  have hsrc : src < 10 ^ (2 * s.bcdBytes) :=
    bcdNumber_lt fun k hk => bcdNibble_le_of_bytes (fun j hj => (h.isBcdByte hj).2) hk
  obtain ⟨hzero, hborrow⟩ := difference_of_borrow hdiff hr hsrc hc
  refine ⟨hz.trans (decide_eq_decide.2 hzero), hcy.trans (decide_eq_decide.2 hborrow), fun hst => ?_⟩
  obtain ⟨hnumber, hdigits⟩ := hstored hst
  refine ⟨?_, hdigits⟩
  obtain ⟨q, hq⟩ : (10 : Int) ^ s.cl.toNat ∣ 10 ^ (2 * s.bcdBytes) := pow_dvd_pow 10 (by omega)
  have hwrap : (r : Int) = (dst - src) + 10 ^ s.cl.toNat * (q * c) := by
    zify at hdiff
    linear_combination hdiff + c * hq
  rw [hnumber]
  push_cast
  rw [hwrap, Int.add_mul_emod_self_left]

end Sys2Proof.Machine

open Sys2Proof Sys2Proof.Machine

/-- Settles O18: the strings as numbers, and the frame that all string instructions have. -/
theorem bcdStringsAddAndSubtract : Obligations.BcdStringsAddAndSubtract := by
  intro s hs h hapart n bytes dst src
  obtain ⟨hsum, hsumDigits, hsumZ, hsumCy⟩ := State.bcdString_add hs h hapart
  obtain ⟨hdiffZ, hdiffCy, hstored⟩ := State.bcdString_sub h (store := true) fun _ => ⟨hs, hapart⟩
  obtain ⟨hdiff, hdiffDigits⟩ := hstored rfl
  exact ⟨⟨_, rfl, hsum, hsumDigits, hsumZ, hsumCy, s.bcdString_frame false true⟩,
    ⟨_, rfl, hdiff, hdiffDigits, hdiffZ, hdiffCy, s.bcdString_frame true true⟩⟩

/-- Settles O19: CMP4S forms the difference that SUB4S stores; the frame holds inside R331 and outside. -/
theorem bcdStringsCompareAndChangeNoMore : Obligations.BcdStringsCompareAndChangeNoMore := by
  constructor
  · intro s h bytes dst src
    obtain ⟨hz, hcy, -⟩ := State.bcdString_sub h (store := false) nofun
    obtain ⟨-, hcontrol, hrest⟩ := s.bcdString_frame true false
    rw [s.bcdString_mem_of_compare] at hrest
    exact ⟨_, rfl, hz, hcy, hcontrol, hrest⟩
  · rintro s i (rfl | rfl | rfl)
    · obtain ⟨hmem, hcontrol, hrest⟩ := s.bcdString_frame false true
      exact ⟨_, rfl, hmem, hcontrol, nofun, hrest⟩
    · obtain ⟨hmem, hcontrol, hrest⟩ := s.bcdString_frame true true
      exact ⟨_, rfl, hmem, hcontrol, nofun, hrest⟩
    · obtain ⟨hmem, hcontrol, hrest⟩ := s.bcdString_frame true false
      exact ⟨_, rfl, hmem, hcontrol, fun _ => s.bcdString_mem_of_compare true, hrest⟩

end

section
/-! SUPPORT. INC and DEC (R350 to R356): an addition or a subtraction of 1 that leaves CY as it was. -/

namespace Sys2Proof

theorem Width.one_lt_bits (w : Width) : 1 < w.bits := by
  cases w <;> decide

end Sys2Proof

namespace Sys2Proof.Machine

/-! ## The flags of INC and DEC -/

/-- `r` is `a + 1` modulo 2^n with the flags of that sum, but CY is `cy` (R350). -/
def IsIncrement {n : Nat} (cy : Bool) (a r : BitVec n) (f : Psw) : Prop :=
  r.toNat = (a.toNat + 1) % 2 ^ n ∧ SumFlagsButCy a 1 false r f ∧ f.cy = cy

/-- `r` is `a - 1` modulo 2^n with the flags of that difference, but CY is `cy` (R350). -/
def IsDecrement {n : Nat} (cy : Bool) (a r : BitVec n) (f : Psw) : Prop :=
  (r.toNat : Int) = (a.toNat - 1 : Int) % 2 ^ n ∧ DifferenceFlagsButCy a 1 false r f ∧ f.cy = cy

theorem toNat_one_of_one_lt {n : Nat} (hn : 1 < n) : (1 : BitVec n).toNat = 1 :=
  BitVec.toNat_one (by omega)

theorem msb_one_of_one_lt {n : Nat} (hn : 1 < n) : (1 : BitVec n).msb = false := by
  have hhalf : 2 ^ 1 ≤ 2 ^ (n - 1) := Nat.pow_le_pow_right (by decide) (by omega)
  rw [BitVec.msb_eq_decide, toNat_one_of_one_lt hn, decide_eq_false_iff_not]
  omega

/-- The sum overflows at the greatest positive number alone (R17). -/
theorem vAdd_one {n : Nat} (hn : 1 < n) (a : BitVec n) : vAdd a 1 (a + 1) = decide (a.toNat + 1 = 2 ^ (n - 1)) := by
  have hpow : 2 ^ n = 2 * 2 ^ (n - 1) := by rw [← Nat.two_pow_pred_mul_two (by omega), Nat.mul_comm]
  have ha := a.isLt
  rw [Bool.eq_iff_iff]
  simp only [vAdd, msb_one_of_one_lt hn, BitVec.msb_eq_decide, BitVec.toNat_add, toNat_one_of_one_lt hn,
    Bool.and_eq_true, beq_iff_eq, bne_iff_ne, ne_eq, decide_eq_false_iff_not, decide_eq_decide, decide_eq_true_eq]
  generalize 2 ^ (n - 1) = half at *
  by_cases hmax : a.toNat + 1 = 2 ^ n
  · rw [hmax, Nat.mod_self]
    omega
  · rw [Nat.mod_eq_of_lt (by omega)]
    omega

/-- The difference overflows at the least negative number alone (R17). -/
theorem vSub_one {n : Nat} (hn : 1 < n) (a : BitVec n) : vSub a 1 (a - 1) = decide (a.toNat = 2 ^ (n - 1)) := by
  have hpow : 2 ^ n = 2 * 2 ^ (n - 1) := by rw [← Nat.two_pow_pred_mul_two (by omega), Nat.mul_comm]
  have hhalf : 2 ^ 1 ≤ 2 ^ (n - 1) := Nat.pow_le_pow_right (by decide) (by omega)
  have ha := a.isLt
  rw [Bool.eq_iff_iff]
  simp only [vSub, msb_one_of_one_lt hn, BitVec.msb_eq_decide, BitVec.toNat_sub, toNat_one_of_one_lt hn,
    Bool.and_eq_true, bne_iff_ne, ne_eq, decide_eq_false_iff_not, decide_eq_decide, decide_eq_true_eq]
  generalize 2 ^ (n - 1) = half at *
  by_cases hzero : a.toNat = 0
  · rw [Nat.mod_eq_of_lt (by omega)]
    omega
  · rw [show 2 ^ n - 1 + a.toNat = a.toNat - 1 + 2 ^ n by omega, Nat.add_mod_right, Nat.mod_eq_of_lt (by omega)]
    omega

theorem addResult_one {n : Nat} (a : BitVec n) : addResult a 1 false = a + 1 := by
  simp [addResult, carryIn]

theorem subResult_one {n : Nat} (a : BitVec n) : subResult a 1 false = a - 1 := by
  simp [subResult, carryIn]

/-- The flags of INC are those of an addition of 1 with CY kept (R350). -/
theorem incFlags_eq {n : Nat} (hn : 1 < n) (a : BitVec n) : incFlags a = { addFlags a 1 false with cy := .keep } := by
  have hac : acAdd a 1 false = decide (a.toNat % 16 = 15) := by
    rw [acAdd, toNat_one_of_one_lt hn, decide_eq_decide, Bool.toNat_false]
    omega
  simp only [incFlags, addFlags, addResult_one, vAdd_one hn, hac]

/-- The flags of DEC are those of a subtraction of 1 with CY kept (R350). -/
theorem decFlags_eq {n : Nat} (hn : 1 < n) (a : BitVec n) : decFlags a = { subFlags a 1 false with cy := .keep } := by
  have hac : acSub a 1 false = decide (a.toNat % 16 = 0) := by
    rw [acSub, toNat_one_of_one_lt hn, decide_eq_decide, Bool.toNat_false]
    omega
  simp only [decFlags, subFlags, subResult_one, vSub_one hn, hac]

theorem incFlags_spec {n : Nat} (hn : 1 < n) (a : BitVec n) (f : Psw) (x : Word) :
    IsIncrement f.cy a (a + 1) ((incFlags a).apply f x) := by
  obtain ⟨-, hflags, -⟩ := addFlags_spec a 1 false f x (by omega)
  rw [addResult_one] at hflags
  rw [incFlags_eq hn]
  exact ⟨by rw [BitVec.toNat_add, toNat_one_of_one_lt hn], hflags, rfl⟩

theorem decFlags_spec {n : Nat} (hn : 1 < n) (a : BitVec n) (f : Psw) (x : Word) :
    IsDecrement f.cy a (a - 1) ((decFlags a).apply f x) := by
  obtain ⟨hdiff, hflags, -⟩ := subResult_spec a 1 false f x (by omega)
  rw [subResult_one] at hdiff hflags
  rw [decFlags_eq hn]
  exact ⟨by simpa [toNat_one_of_one_lt hn] using hdiff, hflags, rfl⟩

/-! ## The forms -/

/-- An instruction that is INC of a register. -/
theorem PutsReg.inc {i : Instr} {w : Width} {d : Reg} (h : ∀ s, exec i s = .next (s.incReg w d)) :
    PutsReg i w d fun s => IsIncrement s.psw.cy (s.getReg w d) :=
  .intro _ _ h fun _ => incFlags_spec w.one_lt_bits ..

/-- An instruction that is DEC of a register. -/
theorem PutsReg.dec {i : Instr} {w : Width} {d : Reg} (h : ∀ s, exec i s = .next (s.decReg w d)) :
    PutsReg i w d fun s => IsDecrement s.psw.cy (s.getReg w d) :=
  .intro _ _ h fun _ => decFlags_spec w.one_lt_bits ..

end Sys2Proof.Machine

open Sys2Proof Sys2Proof.Machine

/-- Settles O21: each form is an increment or a decrement of the register or the memory operand that it names. -/
theorem incrementAndDecrementKeepCarry : Obligations.IncrementAndDecrementKeepCarry := fun w _ _ =>
  ⟨.inc fun _ => rfl, .inc fun _ => rfl, .inc fun _ => rfl,
    .intro _ _ (fun _ => rfl) fun _ => incFlags_spec w.one_lt_bits .., .dec fun _ => rfl, .dec fun _ => rfl,
    .dec fun _ => rfl, .intro _ _ (fun _ => rfl) fun _ => decFlags_spec w.one_lt_bits ..⟩

end

section
/-! SUPPORT. The sign of a value extended into as many bits again (R402, R403), and the products of MULU and MUL with
the significance of their upper half (R360 to R373). -/

namespace Sys2Proof.Machine

/-! ## Sign extension -/

/-- All bits of `signFill` are the sign: it is -1 or 0. -/
theorem toInt_signFill {n : Nat} (hn : 0 < n) (x : BitVec n) : (signFill x).toInt = if x.msb then -1 else 0 := by
  unfold signFill
  split
  · exact (congrArg BitVec.toInt BitVec.neg_one_eq_allOnes).trans (BitVec.toInt_allOnes.trans (if_pos hn))
  · exact BitVec.toInt_zero

/-- A value below its `signFill` is the value extended. -/
theorem toInt_signFill_append {n : Nat} (hn : 0 < n) (x : BitVec n) : (signFill x ++ x).toInt = x.toInt := by
  have hx := BitVec.toInt_eq_msb_cond x
  rw [BitVec.toInt_append, if_neg (by simpa using hn.ne'), toInt_signFill hn, hx]
  split
  · push_cast
    ring
  · ring

/-- The upper half of a value is its sign, repeated, where the value fits in the lower half (R365, R367). -/
theorem eq_signFill_iff {n : Nat} (hn : 0 < n) (hi lo : BitVec n) :
    hi = signFill lo ↔ -2 ^ (n - 1) ≤ (hi ++ lo).toInt ∧ (hi ++ lo).toInt < 2 ^ (n - 1) := by
  constructor
  · rintro rfl
    rw [toInt_signFill_append hn]
    exact ⟨lo.le_toInt, lo.toInt_lt⟩
  · rintro ⟨hlower, hupper⟩
    have hlow : (BitVec.ofInt n (hi ++ lo).toInt).toInt = lo.toInt := by
      rw [BitVec.toInt_ofInt, BitVec.toInt_append, if_neg (by simpa using hn.ne'), BitVec.toInt_eq_toNat_bmod lo]
      exact_mod_cast Int.mul_add_bmod_self_left ..
    rw [BitVec.toInt_ofInt_eq_self hn hlower hupper, ← toInt_signFill_append hn lo, BitVec.toInt_inj,
      BitVec.append_left_inj] at hlow
    exact hlow

/-! ## Products -/

/-- The product of two values fits in twice their bits. -/
theorem toNat_product {n k : Nat} (hk : n + n ≤ k) (a b : BitVec n) :
    (a.setWidth k * b.setWidth k).toNat = a.toNat * b.toNat := by
  have hlt : a.toNat * b.toNat < 2 ^ n * 2 ^ n := Nat.mul_lt_mul'' a.isLt b.isLt
  rw [BitVec.toNat_mul, BitVec.toNat_setWidth_of_le (by omega), BitVec.toNat_setWidth_of_le (by omega)]
  refine Nat.mod_eq_of_lt (hlt.trans_le ?_)
  rw [← Nat.pow_add]
  exact Nat.pow_le_pow_right (by decide) hk

/-- The product of two signed values fits in twice their bits. -/
theorem toInt_product {n k : Nat} (hn : 0 < n) (hk : n + n ≤ k) (a b : BitVec n) :
    (BitVec.ofInt k (a.toInt * b.toInt)).toInt = a.toInt * b.toInt := by
  have habs : ∀ x : BitVec n, |x.toInt| ≤ 2 ^ (n - 1) := fun x => abs_le.2 ⟨x.le_toInt, x.toInt_lt.le⟩
  have hprod : |a.toInt * b.toInt| ≤ 2 ^ (n - 1) * 2 ^ (n - 1) := by
    rw [abs_mul]
    exact mul_le_mul (habs a) (habs b) (abs_nonneg _) (by positivity)
  have hlt : (2 : Int) ^ (n - 1) * 2 ^ (n - 1) < 2 ^ (k - 1) := by
    rw [← pow_add]
    exact pow_lt_pow_right₀ (by decide) (by omega)
  obtain ⟨hlower, hupper⟩ := abs_le.1 hprod
  exact BitVec.toInt_ofInt_eq_self (by omega) (by omega) (by omega)

/-- A double word as the numbers of its halves. -/
theorem toNat_halves (p : BitVec 32) :
    (p.extractLsb' 16 16).toNat * 65536 + (p.setWidth 16).toNat = p.toNat := by
  have hp := p.isLt
  rw [BitVec.extractLsb'_toNat, BitVec.toNat_setWidth, Nat.shiftRight_eq_div_pow]
  omega

theorem append_halves (p : BitVec 32) : p.extractLsb' 16 16 ++ p.setWidth 16 = p := by
  apply BitVec.eq_of_toNat_eq
  rw [BitVec.toNat_append, ← Nat.shiftLeft_add_eq_or_of_lt (p.setWidth 16).isLt, Nat.shiftLeft_eq]
  exact toNat_halves p

theorem toInt_halves (p : BitVec 32) :
    (p.extractLsb' 16 16).toInt * 65536 + (p.setWidth 16).toNat = p.toInt := by
  rw [← congrArg BitVec.toInt (append_halves p), BitVec.toInt_append, if_neg (by decide)]
  ring

/-! ## The significance of the upper half -/

/-- The high byte of a product counts where the product is no byte (R361). -/
theorem hiByte_ne_zero (p : Word) : (hiByte p != 0) = decide (256 ≤ p.toNat) := by
  rw [Bool.eq_iff_iff, bne_iff_ne, ne_eq, BitVec.toNat_eq, toNat_hiByte, decide_eq_true_eq,
    show (0 : Byte).toNat = 0 from rfl]
  omega

/-- The high word of a product counts where the product is no word (R363). -/
theorem highWord_ne_zero (p : BitVec 32) : (p.extractLsb' 16 16 != 0) = decide (65536 ≤ p.toNat) := by
  have hhalves := toNat_halves p
  have hlow := (p.setWidth 16).isLt
  rw [Bool.eq_iff_iff, bne_iff_ne, ne_eq, BitVec.toNat_eq, decide_eq_true_eq, show (0 : Word).toNat = 0 from rfl]
  omega

/-- The upper half of a signed value counts where the value does not fit in the lower half. -/
theorem ne_signFill_eq {n : Nat} (hn : 0 < n) (hi lo : BitVec n) :
    (hi != signFill lo) = decide ((hi ++ lo).toInt < -2 ^ (n - 1) ∨ 2 ^ (n - 1) - 1 < (hi ++ lo).toInt) := by
  rw [Bool.eq_iff_iff, bne_iff_ne, ne_eq, eq_signFill_iff hn, decide_eq_true_eq]
  omega

/-- The high byte of a signed product counts where the product is no signed byte (R365). -/
theorem hiByte_ne_signFill (p : Word) :
    (hiByte p != signFill (loByte p)) = decide (p.toInt < -128 ∨ 127 < p.toInt) := by
  rw [ne_signFill_eq (by decide), show hiByte p ++ loByte p = p from mkWord_hi_lo p]
  rfl

/-- The high word of a signed product counts where the product is no signed word (R367). -/
theorem highWord_ne_signFill (p : BitVec 32) :
    (p.extractLsb' 16 16 != signFill (p.setWidth 16)) = decide (p.toInt < -32768 ∨ 32767 < p.toInt) := by
  rw [ne_signFill_eq (by decide), append_halves]
  rfl

/-! ## The forms -/

/-- MULU of AL (R361, R362). -/
theorem exec_mulu8 {i : Instr} {s : State} {d : Byte} (h : exec i s = .next (s.mulu8 d)) :
    ∃ t, exec i s = .next t ∧ t.aw.toNat = s.aw.toNat % 256 * d.toNat ∧
      t.psw.cy = decide (256 ≤ s.aw.toNat % 256 * d.toNat) ∧ t.psw.v = t.psw.cy ∧ ControlKept s t ∧
      t = { s with aw := t.aw, psw := t.psw, freeCtr := t.freeCtr } := by
  have hp : (zext16 s.al * zext16 d).toNat = s.aw.toNat % 256 * d.toNat := by
    rw [zext16, zext16, toNat_product (by decide), show s.al.toNat = s.aw.toNat % 256 from toNat_loByte s.aw]
  refine ⟨_, h, hp, ?_, rfl, ⟨rfl, rfl, rfl, rfl⟩, rfl⟩
  rw [← hp]
  exact hiByte_ne_zero _

/-- MULU of AW (R363, R364). -/
theorem exec_mulu16 {i : Instr} {s : State} {d : Word} (h : exec i s = .next (s.mulu16 d)) :
    ∃ t, exec i s = .next t ∧ t.dw.toNat * 65536 + t.aw.toNat = s.aw.toNat * d.toNat ∧
      t.psw.cy = decide (65536 ≤ s.aw.toNat * d.toNat) ∧ t.psw.v = t.psw.cy ∧ ControlKept s t ∧
      t = { s with aw := t.aw, dw := t.dw, psw := t.psw, freeCtr := t.freeCtr } := by
  have hp : (s.aw.setWidth 32 * d.setWidth 32).toNat = s.aw.toNat * d.toNat := toNat_product (by decide) ..
  refine ⟨_, h, (toNat_halves _).trans hp, ?_, rfl, ⟨rfl, rfl, rfl, rfl⟩, rfl⟩
  rw [← hp]
  exact highWord_ne_zero _

/-- MUL of AL (R365, R366). -/
theorem exec_mul8 {i : Instr} {s : State} {d : Byte} (h : exec i s = .next (s.mul8 d)) :
    ∃ t, exec i s = .next t ∧ t.aw.toInt = (s.getReg8 .al_aw).toInt * d.toInt ∧
      t.psw.cy = decide (t.aw.toInt < -128 ∨ 127 < t.aw.toInt) ∧ t.psw.v = t.psw.cy ∧ ControlKept s t ∧
      t = { s with aw := t.aw, psw := t.psw, freeCtr := t.freeCtr } :=
  ⟨_, h, toInt_product (by decide) (by decide) .., hiByte_ne_signFill _, rfl, ⟨rfl, rfl, rfl, rfl⟩, rfl⟩

/-- MUL of AW (R367, R368). -/
theorem exec_mul16 {i : Instr} {s : State} {d : Word} (h : exec i s = .next (s.mul16 d)) :
    ∃ t, exec i s = .next t ∧ t.dw.toInt * 65536 + t.aw.toNat = s.aw.toInt * d.toInt ∧
      t.psw.cy = decide (s.aw.toInt * d.toInt < -32768 ∨ 32767 < s.aw.toInt * d.toInt) ∧ t.psw.v = t.psw.cy ∧
      ControlKept s t ∧ t = { s with aw := t.aw, dw := t.dw, psw := t.psw, freeCtr := t.freeCtr } := by
  have hp : (BitVec.ofInt 32 (s.aw.toInt * d.toInt)).toInt = s.aw.toInt * d.toInt :=
    toInt_product (by decide) (by decide) ..
  refine ⟨_, h, (toInt_halves _).trans hp, ?_, rfl, ⟨rfl, rfl, rfl, rfl⟩, rfl⟩
  rw [← hp]
  exact highWord_ne_signFill _

/-- The low word of the signed product `a * b`, and V = CY = 1 where it is no signed 16-bit value (R369). -/
def IsLowProduct (a b : Int) (r : Word) (f : Psw) : Prop :=
  (r.toNat : Int) = a * b % 65536 ∧ f.cy = decide (a * b < -32768 ∨ 32767 < a * b) ∧ f.v = f.cy

/-- MUL with an immediate (R369). -/
theorem PutsReg.mulImm {i : Instr} {d : Reg} {a : State → Word} {imm : Word} {b : Int} (hb : imm.toInt = b)
    (h : ∀ s, exec i s = .next (s.mulImm d (a s) imm)) : PutsReg i .word d fun s => IsLowProduct (a s).toInt b := by
  subst hb
  refine .intro (fun s => BitVec.ofInt 16 ((a s).toInt * imm.toInt)) _ h fun s => ⟨?_, rfl, rfl⟩
  rw [BitVec.toNat_ofInt]
  omega

theorem toInt_sext16 (b : Byte) : (sext16 b).toInt = b.toInt :=
  BitVec.toInt_signExtend_of_le (by decide)

end Sys2Proof.Machine

open Sys2Proof Sys2Proof.Machine

/-- Settles O22: the products of the accumulator whole, those with an immediate cut to the destination. -/
theorem multiplications : Obligations.Multiplications :=
  ⟨fun _ _ _ => ⟨exec_mulu8 rfl, exec_mulu8 rfl, exec_mulu16 rfl, exec_mulu16 rfl, exec_mul8 rfl, exec_mul8 rfl,
      exec_mul16 rfl, exec_mul16 rfl⟩,
    fun _ _ _ i _ => ⟨.mulImm (toInt_sext16 i) fun _ => rfl, .mulImm (toInt_sext16 i) fun _ => rfl,
      .mulImm rfl fun _ => rfl, .mulImm rfl fun _ => rfl⟩⟩

end

section
/-! SUPPORT. DIVU and DIV (R380 to R389): quotient and remainder where the quotient fits, and vector 0 where it does not
(R755). -/

namespace Sys2Proof.Machine

/-! ## Quotient and remainder -/

theorem toNat_eq_zero_iff {n : Nat} {d : BitVec n} : d.toNat = 0 ↔ d = 0 := by
  rw [BitVec.toNat_eq]
  simp

theorem toInt_eq_zero_iff {n : Nat} {d : BitVec n} : d.toInt = 0 ↔ d = 0 := by
  rw [← BitVec.toInt_inj]
  simp

theorem divuParts_of_fits {n : Nat} {max temp : Nat} {d : BitVec n} (hd : d ≠ 0) (hq : temp / d.toNat ≤ max) :
    divuParts max temp d.toNat = some (temp / d.toNat, temp % d.toNat) :=
  if_neg (not_or.2 ⟨mt toNat_eq_zero_iff.1 hd, not_lt.2 hq⟩)

theorem divuParts_of_error {n : Nat} {max temp : Nat} {d : BitVec n} (h : d = 0 ∨ max < temp / d.toNat) :
    divuParts max temp d.toNat = none :=
  if_pos (h.imp_left toNat_eq_zero_iff.2)

theorem divParts_of_fits {n : Nat} {qmax temp : Int} {d : BitVec n} (hd : d ≠ 0) (hmin : -qmax ≤ temp.tdiv d.toInt)
    (hmax : temp.tdiv d.toInt ≤ qmax) :
    divParts qmax temp d.toInt = some (temp.tdiv d.toInt, temp.tmod d.toInt) := by
  rw [divParts, if_neg (mt toInt_eq_zero_iff.1 hd), if_neg (by omega)]

theorem divParts_of_error {n : Nat} {qmax temp : Int} {d : BitVec n}
    (h : d = 0 ∨ temp.tdiv d.toInt < -qmax ∨ qmax < temp.tdiv d.toInt) : divParts qmax temp d.toInt = none := by
  by_cases hd : d = 0
  · exact if_pos (toInt_eq_zero_iff.2 hd)
  · rw [divParts, if_neg (mt toInt_eq_zero_iff.1 hd), if_pos (h.resolve_left hd).symm]

/-- A remainder is less than its divisor. -/
theorem toNat_remainder {n : Nat} (temp : Nat) {d : BitVec n} (hd : d ≠ 0) :
    (BitVec.ofNat n (temp % d.toNat)).toNat = temp % d.toNat := by
  have hlt := Nat.mod_lt temp (Nat.pos_of_ne_zero (mt toNat_eq_zero_iff.1 hd))
  rw [BitVec.toNat_ofNat, Nat.mod_eq_of_lt (hlt.trans d.isLt)]

/-- A signed remainder is less than its divisor in magnitude. -/
theorem toInt_remainder {n : Nat} (hn : 0 < n) (temp : Int) {d : BitVec n} (hd : d ≠ 0) :
    (BitVec.ofInt n (temp.tmod d.toInt)).toInt = temp.tmod d.toInt := by
  have habs := Int.natAbs_tmod temp d.toInt
  have hlt := Nat.mod_lt temp.natAbs (Int.natAbs_pos.2 (mt toInt_eq_zero_iff.1 hd))
  have hlower := d.le_toInt
  have hupper := d.toInt_lt
  exact BitVec.toInt_ofInt_eq_self hn (by omega) (by omega)

/-! ## The quotient fits -/

/-- A byte form that puts quotient and remainder into AL and AH, read by `value` as signed or unsigned numbers. -/
theorem exec_quotient8 {i : Instr} {s : State} {q r : Byte} {α : Type} {value : Byte → α} {a b : α}
    (h : exec i s = .next (s.quotient8 q r)) (hq : value q = a) (hr : value r = b) :
    ∃ t, exec i s = .next t ∧ value (t.getReg8 .al_aw) = a ∧ value (t.getReg8 .ah_sp) = b ∧ ControlKept s t ∧
      t = { s with aw := t.aw, psw := t.psw, freeCtr := t.freeCtr } :=
  ⟨_, h, (congrArg value (loByte_mkWord r q)).trans hq, (congrArg value (hiByte_mkWord r q)).trans hr,
    ⟨rfl, rfl, rfl, rfl⟩, rfl⟩

/-- A word form that puts quotient and remainder into AW and DW. -/
theorem exec_quotient16 {i : Instr} {s : State} {q r : Word} {α : Type} {value : Word → α} {a b : α}
    (h : exec i s = .next (s.quotient16 q r)) (hq : value q = a) (hr : value r = b) :
    ∃ t, exec i s = .next t ∧ value t.aw = a ∧ value t.dw = b ∧ ControlKept s t ∧
      t = { s with aw := t.aw, dw := t.dw, psw := t.psw, freeCtr := t.freeCtr } :=
  ⟨_, h, hq, hr, ⟨rfl, rfl, rfl, rfl⟩, rfl⟩

/-- DIVU, byte form, where the quotient fits (R380, R382, R383). -/
theorem exec_divu8 {i : Instr} {s : State} {d : Byte} (h : exec i s = .next (s.divu8 d)) (hd : d ≠ 0)
    (hq : s.aw.toNat / d.toNat ≤ 0xFF) :
    ∃ t, exec i s = .next t ∧ (t.getReg8 .al_aw).toNat = s.aw.toNat / d.toNat ∧
      (t.getReg8 .ah_sp).toNat = s.aw.toNat % d.toNat ∧ ControlKept s t ∧
      t = { s with aw := t.aw, psw := t.psw, freeCtr := t.freeCtr } := by
  rw [State.divu8, divuParts_of_fits hd hq] at h
  exact exec_quotient8 h ((BitVec.toNat_ofNat ..).trans (Nat.mod_eq_of_lt (by omega))) (toNat_remainder _ hd)

/-- DIVU, word form, where the quotient fits (R380, R384, R385). -/
theorem exec_divu16 {i : Instr} {s : State} {d : Word} (h : exec i s = .next (s.divu16 d)) (hd : d ≠ 0)
    (hq : s.dwaw.toNat / d.toNat ≤ 0xFFFF) :
    ∃ t, exec i s = .next t ∧ t.aw.toNat = s.dwaw.toNat / d.toNat ∧ t.dw.toNat = s.dwaw.toNat % d.toNat ∧
      ControlKept s t ∧ t = { s with aw := t.aw, dw := t.dw, psw := t.psw, freeCtr := t.freeCtr } := by
  rw [State.divu16, divuParts_of_fits hd hq] at h
  exact exec_quotient16 h ((BitVec.toNat_ofNat ..).trans (Nat.mod_eq_of_lt (by omega))) (toNat_remainder _ hd)

/-- DIV, byte form, where the quotient fits (R381, R386, R387). -/
theorem exec_div8 {i : Instr} {s : State} {d : Byte} (h : exec i s = .next (s.div8 d)) (hd : d ≠ 0)
    (hmin : -127 ≤ s.aw.toInt.tdiv d.toInt) (hmax : s.aw.toInt.tdiv d.toInt ≤ 127) :
    ∃ t, exec i s = .next t ∧ (t.getReg8 .al_aw).toInt = s.aw.toInt.tdiv d.toInt ∧
      (t.getReg8 .ah_sp).toInt = s.aw.toInt.tmod d.toInt ∧ ControlKept s t ∧
      t = { s with aw := t.aw, psw := t.psw, freeCtr := t.freeCtr } := by
  rw [State.div8, divParts_of_fits hd hmin hmax] at h
  exact exec_quotient8 h (BitVec.toInt_ofInt_eq_self (by decide) (by omega) (by omega))
    (toInt_remainder (by decide) _ hd)

/-- DIV, word form, where the quotient fits (R381, R388, R389). -/
theorem exec_div16 {i : Instr} {s : State} {d : Word} (h : exec i s = .next (s.div16 d)) (hd : d ≠ 0)
    (hmin : -32767 ≤ s.dwaw.toInt.tdiv d.toInt) (hmax : s.dwaw.toInt.tdiv d.toInt ≤ 32767) :
    ∃ t, exec i s = .next t ∧ t.aw.toInt = s.dwaw.toInt.tdiv d.toInt ∧ t.dw.toInt = s.dwaw.toInt.tmod d.toInt ∧
      ControlKept s t ∧ t = { s with aw := t.aw, dw := t.dw, psw := t.psw, freeCtr := t.freeCtr } := by
  rw [State.div16, divParts_of_fits hd hmin hmax] at h
  exact exec_quotient16 h (BitVec.toInt_ofInt_eq_self (by decide) (by omega) (by omega))
    (toInt_remainder (by decide) _ hd)

/-! ## The divide error -/

/-- The instruction enters vector 0 from `s` with an image that holds the control flags; the quotient and remainder
registers and the six flags are not constrained, but a byte form leaves DW (R380, R755). -/
def DivideErrorEnters (i : Instr) (s : State) (word : Bool) : Prop :=
  ∃ t image, exec i s = .next t ∧ FramePushed image s t ∧
    (Psw.ofImage image).md = s.psw.md ∧ (Psw.ofImage image).dir = s.psw.dir ∧ (Psw.ofImage image).ie = s.psw.ie ∧
    (Psw.ofImage image).brk = s.psw.brk ∧ AtVector 0 t ∧ t.psw.md = true ∧ t.psw.dir = s.psw.dir ∧
    t.psw.ie = false ∧ t.psw.brk = false ∧ (word = false → t.dw = s.dw) ∧
    t = { s with
      aw := t.aw, dw := t.dw, sp := t.sp, ps := t.ps, pc := t.pc, psw := t.psw, queue := t.queue, mem := t.mem
      freeCtr := t.freeCtr }

/-- An interrupt to vector 0 after free values went to the quotient and remainder registers and to the six flags. -/
theorem divideErrorEnters_of_interrupt {i : Instr} {s : State} {aw dw : Word} {f : Psw} {k : Nat} {word : Bool}
    (hs : Memory.wf s.mem = true)
    (h : exec i s = .next ({ s with aw := aw, dw := dw, psw := f, freeCtr := k }.interrupt 0))
    (hf : f.md = s.psw.md ∧ f.dir = s.psw.dir ∧ f.ie = s.psw.ie ∧ f.brk = s.psw.brk)
    (hdw : word = false → dw = s.dw) : DivideErrorEnters i s word := by
  obtain ⟨hframe, hvector, hpsw, hrest⟩ :=
    State.interrupt_spec (s := { s with aw := aw, dw := dw, psw := f, freeCtr := k }) hs 0
  obtain ⟨hmd, hdir, hie, hbrk⟩ := hf
  generalize State.interrupt _ _ = t at h hframe hvector hpsw hrest
  have haw : t.aw = aw := congrArg State.aw hrest
  have hdw' : t.dw = dw := congrArg State.dw hrest
  have hfree : t.freeCtr = k := congrArg State.freeCtr hrest
  refine ⟨t, f.image, h, hframe, ?_⟩
  rw [Psw.ofImage_image, haw, hdw', hfree]
  exact ⟨hmd, hdir, hie, hbrk, hvector, congrArg Psw.md hpsw, (congrArg Psw.dir hpsw).trans hdir,
    congrArg Psw.ie hpsw, congrArg Psw.brk hpsw, hdw, hrest⟩

theorem divideErrorEnters_of_divideError8 {i : Instr} {s : State} (hs : Memory.wf s.mem = true)
    (h : exec i s = .next s.divideError8) : DivideErrorEnters i s false :=
  divideErrorEnters_of_interrupt hs h ⟨rfl, rfl, rfl, rfl⟩ fun _ => rfl

theorem divideErrorEnters_of_divideError16 {i : Instr} {s : State} (hs : Memory.wf s.mem = true)
    (h : exec i s = .next s.divideError16) : DivideErrorEnters i s true :=
  divideErrorEnters_of_interrupt hs h ⟨rfl, rfl, rfl, rfl⟩ nofun

/-- DIVU, byte form, where the quotient does not fit (R380). -/
theorem exec_divu8_error {i : Instr} {s : State} {d : Byte} (hs : Memory.wf s.mem = true)
    (h : exec i s = .next (s.divu8 d)) (hd : d = 0 ∨ 0xFF < s.aw.toNat / d.toNat) : DivideErrorEnters i s false := by
  rw [State.divu8, divuParts_of_error hd] at h
  exact divideErrorEnters_of_divideError8 hs h

/-- DIVU, word form, where the quotient does not fit (R380). -/
theorem exec_divu16_error {i : Instr} {s : State} {d : Word} (hs : Memory.wf s.mem = true)
    (h : exec i s = .next (s.divu16 d)) (hd : d = 0 ∨ 0xFFFF < s.dwaw.toNat / d.toNat) :
    DivideErrorEnters i s true := by
  rw [State.divu16, divuParts_of_error hd] at h
  exact divideErrorEnters_of_divideError16 hs h

/-- DIV, byte form, where the quotient does not fit (R381). -/
theorem exec_div8_error {i : Instr} {s : State} {d : Byte} (hs : Memory.wf s.mem = true)
    (h : exec i s = .next (s.div8 d))
    (hd : d = 0 ∨ s.aw.toInt.tdiv d.toInt < -127 ∨ 127 < s.aw.toInt.tdiv d.toInt) :
    DivideErrorEnters i s false := by
  rw [State.div8, divParts_of_error hd] at h
  exact divideErrorEnters_of_divideError8 hs h

/-- DIV, word form, where the quotient does not fit (R381). -/
theorem exec_div16_error {i : Instr} {s : State} {d : Word} (hs : Memory.wf s.mem = true)
    (h : exec i s = .next (s.div16 d))
    (hd : d = 0 ∨ s.dwaw.toInt.tdiv d.toInt < -32767 ∨ 32767 < s.dwaw.toInt.tdiv d.toInt) :
    DivideErrorEnters i s true := by
  rw [State.div16, divParts_of_error hd] at h
  exact divideErrorEnters_of_divideError16 hs h

end Sys2Proof.Machine

open Sys2Proof Sys2Proof.Machine

/-- Settles O23: where the quotient fits, quotient and remainder fit in their registers. -/
theorem divisionsGiveQuotientAndRemainder : Obligations.DivisionsGiveQuotientAndRemainder := fun _ _ _ =>
  ⟨exec_divu8 rfl, exec_divu8 rfl, exec_divu16 rfl, exec_divu16 rfl, exec_div8 rfl, exec_div8 rfl, exec_div16 rfl,
    exec_div16 rfl⟩

/-- Settles O24: each form that cannot store its quotient is its divide error, which is an interrupt. -/
theorem divideErrorEntersVectorZero : Obligations.DivideErrorEntersVectorZero := fun _ _ _ hs =>
  ⟨exec_divu8_error hs rfl, exec_divu8_error hs rfl, exec_divu16_error hs rfl, exec_divu16_error hs rfl,
    exec_div8_error hs rfl, exec_div8_error hs rfl, exec_div16_error hs rfl, exec_div16_error hs rfl⟩

end

section
/-! SUPPORT. The decimal adjustments (R390 to R394) and the conversions (R400 to R403) in numbers. -/

namespace Sys2Proof.Machine

theorem State.toNat_al (s : State) : s.al.toNat = s.aw.toNat % 256 := toNat_loByte s.aw

theorem State.toNat_ah (s : State) : s.ah.toNat = s.aw.toNat / 256 := toNat_hiByte s.aw

/-- The low digit alone (R391, R393). -/
theorem toNat_lowDigit (b : Byte) : (b &&& 0x0F).toNat = b.toNat % 16 :=
  (BitVec.toNat_and ..).trans (Nat.and_two_pow_sub_one_eq_mod b.toNat 4)

/-- A difference of bytes as a sum of numbers. -/
theorem toNat_byte_sub (x y : Byte) : (x - y).toNat = (x.toNat + (256 - y.toNat)) % 256 := by
  rw [BitVec.toNat_sub, Nat.add_comm]

/-- A byte register after a change of flags. -/
theorem State.getReg8_flags (s : State) (e : FlagEffect) (r : Reg) : (s.flags e).getReg8 r = s.getReg8 r :=
  s.getReg_flags e .byte r

/-! ## ADJBA and ADJBS -/

/-- The first test of the four adjustments, in numbers (R390). -/
theorem State.adjustsLow_eq (s : State) :
    s.adjustsLow = (decide (9 < s.aw.toNat % 256 % 16) || s.psw.ac) := by
  rw [State.adjustsLow, s.toNat_al]

theorem State.adjustsLow_iff (s : State) : s.adjustsLow = true ↔ 9 < s.aw.toNat % 256 % 16 ∨ s.psw.ac = true := by
  rw [s.adjustsLow_eq, Bool.or_eq_true, decide_eq_true_eq]

/-- An unpacked adjustment: AH and AL become `ah` and the low digit of `al` where the first test holds (R391, R393). -/
theorem exec_unpackedAdjust {i : Instr} {s : State} {ah al : Byte} {x y : Nat}
    (h : exec i s = .next
      (if s.adjustsLow then { s with aw := mkWord ah (al &&& 0x0F) }.flags (unpackedFlags true)
      else (s.setAl (s.al &&& 0x0F)).flags (unpackedFlags false)))
    (hah : ah.toNat = (s.ah.toNat + x) % 256) (hal : al.toNat = (s.al.toNat + y) % 256) :
    ∃ t, exec i s = .next t ∧
      (9 < s.aw.toNat % 256 % 16 ∨ s.psw.ac = true →
        t.aw.toNat = (s.aw.toNat / 256 + x) % 256 * 256 + (s.aw.toNat % 256 + y) % 16 ∧ t.psw.ac = true ∧
          t.psw.cy = true) ∧
      (¬(9 < s.aw.toNat % 256 % 16 ∨ s.psw.ac = true) →
        t.aw.toNat = s.aw.toNat / 256 * 256 + s.aw.toNat % 256 % 16 ∧ t.psw.ac = false ∧ t.psw.cy = false) ∧
      ControlKept s t ∧ t = { s with aw := t.aw, psw := t.psw, freeCtr := t.freeCtr } := by
  rw [← s.adjustsLow_iff, ← s.toNat_ah, ← s.toNat_al]
  by_cases hlow : s.adjustsLow = true
  · rw [if_pos hlow] at h
    refine ⟨_, h, fun _ => ⟨?_, rfl, rfl⟩, fun hnot => absurd hlow hnot, ⟨rfl, rfl, rfl, rfl⟩, rfl⟩
    show (mkWord ah (al &&& 0x0F)).toNat = _
    rw [toNat_mkWord, toNat_lowDigit, hah, hal, Nat.mod_mod_of_dvd _ (by decide)]
  · rw [if_neg hlow] at h
    refine ⟨_, h, fun hl => absurd hl hlow, fun _ => ⟨?_, rfl, rfl⟩, ⟨rfl, rfl, rfl, rfl⟩, rfl⟩
    show (mkWord s.ah (s.al &&& 0x0F)).toNat = _
    rw [toNat_mkWord, toNat_lowDigit]

/-! ## ADJ4A and ADJ4S -/

/-- A packed adjustment whose first step gives `al1`, and whose second step, where it is made, gives `al2`. The numbers
`m` and `m + k` are those two before they are cut to a byte (R392, R394). -/
theorem exec_packedAdjust {i : Instr} {s : State} {al1 al2 : Byte} {ac cy high : Bool} {m k : Nat}
    (h : exec i s = .next ((s.setAl (if adjustsHigh al1 cy then al2 else al1)).flags
      (packedFlags (if adjustsHigh al1 cy then al2 else al1) s.adjustsLow (adjustsHigh al1 cy))))
    (hac : s.adjustsLow = ac) (hhigh : adjustsHigh al1 cy = high) (hal1 : al1.toNat = m % 256)
    (hal2 : al2.toNat = (al1.toNat + k) % 256) :
    ∃ t, exec i s = .next t ∧
      t.aw.toNat = s.aw.toNat / 256 * 256 + (if high then m + k else m) % 256 ∧ t.psw.ac = ac ∧ t.psw.cy = high ∧
      SzpOf (t.getReg8 .al_aw) t.psw ∧ ControlKept s t ∧
      t = { s with aw := t.aw, psw := t.psw, freeCtr := t.freeCtr } := by
  rw [hhigh] at h
  have hal : (if high then al2 else al1).toNat = (if high then m + k else m) % 256 := by
    cases high
    · exact hal1
    · exact hal2.trans (by rw [hal1, Nat.mod_add_mod]; rfl)
  generalize (if high then al2 else al1) = al at h hal
  refine ⟨_, h, ?_, hac, rfl, ?_, ⟨rfl, rfl, rfl, rfl⟩, rfl⟩
  · show (mkWord s.ah al).toNat = _
    rw [toNat_mkWord, s.toNat_ah, hal]
  · rw [State.getReg8_flags, show (s.setAl al).getReg8 .al_aw = al from s.getReg8_setReg8 .al_aw al]
    exact .intro rfl rfl rfl

/-- The first step of ADJ4A and the test for the second: its carry is kept with CY (R392). -/
theorem adj4a_steps {al : Byte} {n : Nat} {b low : Bool} (hal : al.toNat = n) (hb : b = low) (cy : Bool) :
    let al1 := if b then al + 6 else al
    let up1 := if low then n + 6 else n
    al1.toNat = up1 % 256 ∧ adjustsHigh al1 (cy || (b && decide (0x100 ≤ al.toNat + 6))) =
      (decide (0x9F < up1 % 256) || (cy || decide (256 ≤ up1))) := by
  subst hal hb
  intro al1 up1
  have hlt := al.isLt
  have hal1 : al1.toNat = up1 % 256 := by
    cases b
    · exact (Nat.mod_eq_of_lt hlt).symm
    · exact BitVec.toNat_add ..
  refine ⟨hal1, ?_⟩
  rw [adjustsHigh, hal1]
  congr 2
  cases b
  · simpa [up1] using hlt
  · rfl

/-- The first step of ADJ4S and the test for the second: a borrow is kept with CY (R394). -/
theorem adj4s_steps {al : Byte} {n : Nat} {b low : Bool} (hal : al.toNat = n) (hb : b = low) (cy : Bool) :
    let al1 := if b then al - 6 else al
    let dn1 := if low then n + 250 else n + 256
    al1.toNat = dn1 % 256 ∧ adjustsHigh al1 (cy || (b && decide (al.toNat < 6))) =
      (decide (0x9F < dn1 % 256) || (cy || decide (dn1 < 256))) := by
  subst hal hb
  intro al1 dn1
  have hlt := al.isLt
  have hal1 : al1.toNat = dn1 % 256 := by
    cases b
    · exact ((Nat.add_mod_right ..).trans (Nat.mod_eq_of_lt hlt)).symm
    · exact toNat_byte_sub al 6
  refine ⟨hal1, ?_⟩
  rw [adjustsHigh, hal1]
  congr 2
  cases b
  · simp [dn1]
  · simp only [dn1, Bool.true_and, if_true, decide_eq_decide]
    omega

/-! ## Conversions -/

/-- An instruction that writes AH and AL and the S, Z and P of AL among the flags (R400, R401). -/
theorem exec_convert {i : Instr} {s : State} {ah al : Byte}
    (h : exec i s = .next ({ s with aw := mkWord ah al }.flags (convertFlags al))) {x : Nat}
    (hx : ah.toNat * 256 + al.toNat = x) :
    ∃ t, exec i s = .next t ∧ t.aw.toNat = x ∧ SzpOf (t.getReg8 .al_aw) t.psw ∧ ControlKept s t ∧
      t = { s with aw := t.aw, psw := t.psw, freeCtr := t.freeCtr } := by
  refine ⟨_, h, (toNat_mkWord ah al).trans hx, ?_, ⟨rfl, rfl, rfl, rfl⟩, rfl⟩
  rw [State.getReg8_flags, show State.getReg8 { s with aw := mkWord ah al } .al_aw = al from loByte_mkWord ah al]
  exact .intro rfl rfl rfl

/-- The quotient and the remainder of AL by 10 are bytes (R400). -/
theorem cvtbd_digits (al : Byte) :
    (BitVec.ofNat 8 (al.toNat / 10)).toNat * 256 + (BitVec.ofNat 8 (al.toNat % 10)).toNat =
      al.toNat / 10 * 256 + al.toNat % 10 := by
  have hal := al.isLt
  rw [BitVec.toNat_ofNat, BitVec.toNat_ofNat]
  omega

/-- The number that two digits stand for, cut to a byte (R401). -/
theorem cvtdb_number (ah al : Byte) : (ah * 10 + al).toNat = (ah.toNat * 10 + al.toNat) % 256 := by
  rw [BitVec.toNat_add, BitVec.toNat_mul, show (10 : Byte).toNat = 10 from rfl, Nat.mod_add_mod]

/-- `signFill` of a byte, by the number (R402). -/
theorem signFill_byte (x : Byte) : signFill x = if x.toNat < 0x80 then 0x00 else 0xFF := by
  rw [signFill, BitVec.msb_eq_decide]
  by_cases h : x.toNat < 0x80
  · rw [if_pos h, if_neg (by simpa using h)]
  · rw [if_neg h, if_pos (by simpa using h)]
    rfl

/-- `signFill` of a word, by the number (R403). -/
theorem signFill_word (x : Word) : signFill x = if x.toNat < 0x8000 then 0x0000 else 0xFFFF := by
  rw [signFill, BitVec.msb_eq_decide]
  by_cases h : x.toNat < 0x8000
  · rw [if_pos h, if_neg (by simpa using h)]
  · rw [if_neg h, if_pos (by simpa using h)]
    rfl

end Sys2Proof.Machine

open Sys2Proof Sys2Proof.Machine

/-- Settles O25: each adjustment is one write of AW with its flags; AL after each step as a number. -/
theorem decimalAdjustments : Obligations.DecimalAdjustments := by
  refine ⟨fun s => ⟨?adjba, ?adjbs⟩, fun s => ⟨?adj4a, ?adj4s⟩, fun s => ⟨?cvtbd, ?cvtdb⟩⟩
  case adjba => exact exec_unpackedAdjust rfl (BitVec.toNat_add s.ah 1) (BitVec.toNat_add s.al 6)
  case adjbs => exact exec_unpackedAdjust rfl (toNat_byte_sub s.ah 1) (toNat_byte_sub s.al 6)
  case adj4a =>
    obtain ⟨hal1, hhigh⟩ := adj4a_steps s.toNat_al s.adjustsLow_eq s.psw.cy
    exact exec_packedAdjust rfl s.adjustsLow_eq hhigh hal1 (BitVec.toNat_add _ 0x60)
  case adj4s =>
    obtain ⟨hal1, hhigh⟩ := adj4s_steps s.toNat_al s.adjustsLow_eq s.psw.cy
    exact exec_packedAdjust rfl s.adjustsLow_eq hhigh hal1 (toNat_byte_sub _ 0x60)
  case cvtbd => exact exec_convert rfl (s.toNat_al ▸ cvtbd_digits s.al)
  case cvtdb =>
    refine exec_convert rfl ?_
    rw [cvtdb_number, s.toNat_ah, s.toNat_al]
    exact Nat.zero_add _

/-- Settles O27: 98H is CVTBW, and each of the two writes the sign of its operand above it. -/
theorem conversions : Obligations.Conversions := by
  refine ⟨fun _ => rfl, fun s => ⟨⟨_, rfl, ?al, ?ah, ?aw, rfl⟩, ⟨_, rfl, signFill_word s.aw, ?dw, rfl⟩⟩⟩
  case al => exact s.getReg8_setReg8_other (r := .ah_sp) (x := .al_aw) _ (by decide)
  case ah => exact (s.getReg8_setReg8 .ah_sp _).trans (signFill_byte s.al)
  case aw => exact toInt_signFill_append (by decide) s.al
  case dw =>
    have hvalue := toInt_signFill_append (by decide) s.aw
    rwa [BitVec.toInt_append, if_neg (by decide), Int.mul_comm] at hvalue

end

section
/-! SUPPORT. Comparison, complement and the logical operations (R420 to R455), and the order of two numbers as the
conditional branches read it from the flags of CMP (R653 to R666). -/

namespace Sys2Proof.Machine

/-! ## CMP and TEST -/

/-- An instruction that is a comparison (R420). -/
theorem PutsFlags.compare {i : Instr} {w : Width} {a b : State → BitVec w.bits}
    (h : ∀ s, exec i s = .next (s.compare (a s) (b s))) :
    PutsFlags i fun s f => DifferenceFlags (a s) (b s) false (a s - b s) f :=
  .intro _ h fun _ => comparison_flags ..

/-- An instruction that is a test (R431). -/
theorem PutsFlags.test {i : Instr} {w : Width} {a b : State → BitVec w.bits}
    (h : ∀ s, exec i s = .next (s.test (a s) (b s))) : PutsFlags i fun s f => LogicFlagsOf (a s &&& b s) f :=
  .intro _ h fun _ => logicFlags_spec ..

/-! ## The order of two numbers, read from the flags of their difference -/

section Order

variable {n : Nat} {a b : BitVec n} {f : Psw}

/-- CY is the borrow: the order of unsigned numbers (R653). -/
theorem DifferenceFlags.cy_iff_lt (h : DifferenceFlags a b false (a - b) f) : f.cy = true ↔ a.toNat < b.toNat := by
  obtain ⟨-, hcy⟩ := h
  simp [hcy]

/-- Z is equality (R655). -/
theorem DifferenceFlags.z_iff_eq (h : DifferenceFlags a b false (a - b) f) : f.z = true ↔ a = b := by
  obtain ⟨⟨⟨-, hz, -⟩, -⟩, -⟩ := h
  rw [hz, decide_eq_true_eq, ← sub_eq_zero (a := a), ← BitVec.toNat_inj]
  rfl

/-- V is the overflow of the signed difference (R17). -/
theorem DifferenceFlags.v_eq_overflow (h : DifferenceFlags a b false (a - b) f) : f.v = a.ssubOverflow b := by
  obtain ⟨⟨-, -, hv⟩, -⟩ := h
  rw [hv, BitVec.ssubOverflow_eq]
  cases a.msb <;> cases b.msb <;> simp

/-- S XOR V is the order of signed numbers (R663): without overflow S is the sign of the true difference, and with it
the other one. -/
theorem DifferenceFlags.s_xor_v_iff_lt (h : DifferenceFlags a b false (a - b) f) :
    (f.s ^^ f.v) = true ↔ a.toInt < b.toInt := by
  have hoverflow := h.v_eq_overflow
  obtain ⟨⟨⟨hs, -⟩, -, hv⟩, -⟩ := h
  by_cases hset : f.v = true
  · obtain ⟨hab, hra⟩ : a.msb ≠ b.msb ∧ (a - b).msb ≠ a.msb := of_decide_eq_true (hv.symm.trans hset)
    rw [BitVec.msb_eq_toInt, BitVec.msb_eq_toInt, ne_eq, decide_eq_decide] at hab
    rw [hset, hs, Bool.eq_not_of_ne hra, Bool.xor_true, Bool.not_not, BitVec.msb_eq_toInt, decide_eq_true_eq]
    omega
  · have hdiff : (a - b).toInt = a.toInt - b.toInt := BitVec.toInt_sub_of_not_ssubOverflow (hoverflow ▸ hset)
    rw [Bool.eq_false_of_not_eq_true hset, hs, Bool.xor_false, BitVec.msb_eq_toInt, hdiff, decide_eq_true_eq]
    omega

end Order

/-! ## Conditional branches -/

/-- A conditional branch goes to its target exactly where its condition on the flags says so (R650). -/
theorem exec_branchIf {i : Instr} {t : State} {c : Bool} {disp : Byte} (h : exec i t = .next (t.branchIf c disp))
    {P : Prop} [Decidable P] (hc : c = true ↔ P) :
    exec i t = .next (if P then { t with pc := t.pc + sext16 disp, queue := [] } else t) := by
  rw [h, State.branchIf, State.jump, if_congr hc rfl rfl]

/-! ## AND, OR and XOR -/

/-- Each bit of `r` is `op` of the bits of `a` and `b` at its place, and the flags are those of a logical result
(R431). -/
def IsBitwise {n : Nat} (op : Bool → Bool → Bool) (a b r : BitVec n) (f : Psw) : Prop :=
  (∀ k, k < n → r.getLsbD k = op (a.getLsbD k) (b.getLsbD k)) ∧ LogicFlagsOf r f

/-- One of the eight operations works bit by bit, at every width and whatever CY is. -/
def ActsBitwise (aop : AluOp) (op : Bool → Bool → Bool) : Prop :=
  ∀ {n : Nat} (cy : Bool) (a b r : BitVec n) (f : Psw), IsAluResult aop cy a b r f → IsBitwise op a b r f

theorem and_actsBitwise : ActsBitwise .and (· && ·) := by
  rintro n cy a b _ f ⟨rfl, hflags⟩
  exact ⟨fun _ _ => BitVec.getLsbD_and, hflags⟩

theorem or_actsBitwise : ActsBitwise .or (· || ·) := by
  rintro n cy a b _ f ⟨rfl, hflags⟩
  exact ⟨fun _ _ => BitVec.getLsbD_or, hflags⟩

theorem xor_actsBitwise : ActsBitwise .xor (· ^^ ·) := by
  rintro n cy a b _ f ⟨rfl, hflags⟩
  exact ⟨fun _ _ => BitVec.getLsbD_xor, hflags⟩

/-- An instruction that is a logical operation with a register destination (R431). -/
theorem PutsReg.bitwise {aop : AluOp} {op : Bool → Bool → Bool} (hop : ActsBitwise aop op) {i : Instr} {w : Width}
    {d : Reg} {b : State → BitVec w.bits} (h : ∀ s, exec i s = .next (s.aluReg aop w d (b s))) :
    PutsReg i w d fun s => IsBitwise op (s.getReg w d) (b s) :=
  .intro _ _ h fun _ => hop _ _ _ _ _ (aluEffect_spec w.bits_pos ..)

/-- An instruction that is a logical operation with a memory destination (R431). -/
theorem PutsMem.bitwise {aop : AluOp} {op : Bool → Bool → Bool} (hop : ActsBitwise aop op) {i : Instr} {w : Width}
    {m : Mem} {b : State → BitVec w.bits} (h : ∀ s, exec i s = .next (s.aluMem aop w m (b s))) :
    PutsMem i w m fun s => IsBitwise op (s.readOperand w m) (b s) :=
  .intro _ _ h fun _ => hop _ _ _ _ _ (aluEffect_spec w.bits_pos ..)

/-! ## NOT -/

theorem getLsbD_not_of_lt {n : Nat} (a : BitVec n) {k : Nat} (hk : k < n) : (~~~a).getLsbD k = !a.getLsbD k := by
  rw [BitVec.getLsbD_not, decide_eq_true hk, Bool.true_and]

theorem StatusKept.refl (f : Psw) : StatusKept f f :=
  ⟨rfl, rfl, rfl, rfl, rfl, rfl⟩

end Sys2Proof.Machine

open Sys2Proof Sys2Proof.Machine

/-- Settles O16: each form is a comparison or a test of the two operands that it names. -/
theorem comparisonsAndTestsSetFlagsAlone : Obligations.ComparisonsAndTestsSetFlagsAlone :=
  ⟨fun _ _ _ _ _ _ =>
    ⟨.compare fun _ => rfl, .compare fun _ => rfl, .compare fun _ => rfl, .compare fun _ => rfl,
      .compare fun _ => rfl, .compare fun _ => rfl, .compare fun _ => rfl⟩,
    fun _ _ _ _ _ =>
    ⟨.test fun _ => rfl, .test fun _ => rfl, .test fun _ => rfl, .test fun _ => rfl, .test fun _ => rfl⟩⟩

/-- Settles O17: each condition is one of CY, Z and S XOR V, a disjunction of two or the complement of either. -/
theorem branchesAfterCompareDecideTheOrder : Obligations.BranchesAfterCompareDecideTheOrder := by
  intro s t w d r disp ht a b taken
  obtain ⟨t', ht', hflags, -⟩ := (comparisonsAndTestsSetFlagsAlone.1 w d r (.ind .bw) .b80 0).1 s
  obtain rfl : t = t' := Host.Outcome.next.inj (ht.symm.trans ht')
  have hlower : t.psw.cy = true ↔ a.toNat < b.toNat := hflags.cy_iff_lt
  have hequal : t.psw.z = true ↔ a = b := hflags.z_iff_eq
  have hless : (t.psw.s ^^ t.psw.v) = true ↔ a.toInt < b.toInt := hflags.s_xor_v_iff_lt
  have hnotHigher : (t.psw.cy || t.psw.z) = true ↔ a.toNat ≤ b.toNat := by
    rw [Bool.or_eq_true, hlower, hequal, Nat.le_iff_lt_or_eq, BitVec.toNat_inj]
  have hlessEqual : ((t.psw.s ^^ t.psw.v) || t.psw.z) = true ↔ a.toInt ≤ b.toInt := by
    rw [Bool.or_eq_true, hless, hequal, Int.le_iff_lt_or_eq, BitVec.toInt_inj]
  have hnotLower : (!t.psw.cy) = true ↔ b.toNat ≤ a.toNat :=
    Bool.not_iff_not.trans ((not_congr hlower).trans Nat.not_lt)
  have hnotEqual : (!t.psw.z) = true ↔ a ≠ b := Bool.not_iff_not.trans (not_congr hequal)
  have hhigher : (!(t.psw.cy || t.psw.z)) = true ↔ b.toNat < a.toNat :=
    Bool.not_iff_not.trans ((not_congr hnotHigher).trans Nat.not_le)
  have hgreaterEqual : (!(t.psw.s ^^ t.psw.v)) = true ↔ b.toInt ≤ a.toInt :=
    Bool.not_iff_not.trans ((not_congr hless).trans Int.not_lt)
  have hgreater : (!((t.psw.s ^^ t.psw.v) || t.psw.z)) = true ↔ b.toInt < a.toInt :=
    Bool.not_iff_not.trans ((not_congr hlessEqual).trans Int.not_le)
  exact ⟨exec_branchIf rfl hlower, exec_branchIf rfl hnotLower, exec_branchIf rfl hequal,
    exec_branchIf rfl hnotEqual, exec_branchIf rfl hnotHigher, exec_branchIf rfl hhigher, exec_branchIf rfl hless,
    exec_branchIf rfl hgreaterEqual, exec_branchIf rfl hlessEqual, exec_branchIf rfl hgreater⟩

/-- Settles O28: each form is AND, OR or XOR of its destination with the operand that it names. -/
theorem logicalOperations : Obligations.LogicalOperations := by
  refine ⟨fun w d r m imm i => ⟨?andReg, ?orReg, ?xorReg⟩, fun w r m imm i => ⟨?andMem, ?orMem, ?xorMem⟩⟩
  case andReg =>
    exact ⟨.bitwise and_actsBitwise fun _ => rfl, .bitwise and_actsBitwise fun _ => rfl,
      .bitwise and_actsBitwise fun _ => rfl, .bitwise and_actsBitwise fun _ => rfl,
      .bitwise and_actsBitwise fun _ => rfl, .bitwise and_actsBitwise fun _ => rfl⟩
  case orReg =>
    exact ⟨.bitwise or_actsBitwise fun _ => rfl, .bitwise or_actsBitwise fun _ => rfl,
      .bitwise or_actsBitwise fun _ => rfl, .bitwise or_actsBitwise fun _ => rfl,
      .bitwise or_actsBitwise fun _ => rfl, .bitwise or_actsBitwise fun _ => rfl⟩
  case xorReg =>
    exact ⟨.bitwise xor_actsBitwise fun _ => rfl, .bitwise xor_actsBitwise fun _ => rfl,
      .bitwise xor_actsBitwise fun _ => rfl, .bitwise xor_actsBitwise fun _ => rfl,
      .bitwise xor_actsBitwise fun _ => rfl, .bitwise xor_actsBitwise fun _ => rfl⟩
  case andMem =>
    exact ⟨.bitwise and_actsBitwise fun _ => rfl, .bitwise and_actsBitwise fun _ => rfl,
      .bitwise and_actsBitwise fun _ => rfl⟩
  case orMem =>
    exact ⟨.bitwise or_actsBitwise fun _ => rfl, .bitwise or_actsBitwise fun _ => rfl,
      .bitwise or_actsBitwise fun _ => rfl⟩
  case xorMem =>
    exact ⟨.bitwise xor_actsBitwise fun _ => rfl, .bitwise xor_actsBitwise fun _ => rfl,
      .bitwise xor_actsBitwise fun _ => rfl⟩

/-- Settles O29: NOT is one write of the complement, NEG one of the difference from 0 with its flags. -/
theorem complementAndNegate : Obligations.ComplementAndNegate := by
  intro w r m
  refine ⟨?notReg, ?notMem, ?negReg, ?negMem⟩
  case notReg =>
    exact .intro_noflags _ (fun _ => rfl) fun s => ⟨fun _ => getLsbD_not_of_lt _, .refl s.psw⟩
  case notMem =>
    exact .intro_noflags _ (fun _ => rfl) fun s => ⟨fun _ => getLsbD_not_of_lt _, .refl s.psw⟩
  case negReg => exact .intro _ _ (fun _ => rfl) fun _ => subResult_spec _ _ _ _ _ w.bits_pos
  case negMem => exact .intro _ _ (fun _ => rfl) fun _ => subResult_spec _ _ _ _ _ w.bits_pos

end

section
/-! SUPPORT. The single-bit operations (R470 to R509): what TEST1 and the instructions on CY do to the flags, and what
NOT1, CLR1 and SET1 do to each bit of their operand. -/

namespace Sys2Proof.Machine

/-! ## Flags -/

/-- An instruction that is a bit test (R473). -/
theorem PutsFlags.test1 {i : Instr} (w : Width) {a : State → BitVec w.bits} {number : State → Byte}
    (h : ∀ s, exec i s = .next (s.test1 w (a s) (number s))) :
    PutsFlags i fun s f => f.v = false ∧ f.cy = false ∧ f.z = !(a s).getLsbD ((number s).toNat % w.bits) :=
  .intro _ h fun _ => ⟨rfl, rfl, rfl⟩

/-- An instruction that determines CY and no other status flag (U7). -/
theorem PutsFlags.carry {i : Instr} {cy : State → Bool} (h : ∀ s, exec i s = .next (s.flags (carryFlags (cy s)))) :
    PutsFlags i fun s f => f.cy = cy s :=
  .intro _ h fun _ => rfl

/-! ## Bits of an operand -/

theorem getLsbD_bitMask {n k : Nat} (b : Nat) (hk : k < n) : (bitMask b : BitVec n).getLsbD k = decide (k = b) := by
  rw [bitMask, Nat.one_shiftLeft, BitVec.natCast_eq_ofNat, BitVec.getLsbD_ofNat, decide_eq_true hk, Bool.true_and,
    Nat.testBit_two_pow, decide_eq_decide]
  exact eq_comm

/-- What an operation makes of the bit that its number selects. -/
def selectedBit : BitOp → Bool → Bool
  | .test1, b => b
  | .clr1, _ => false
  | .set1, _ => true
  | .not1, b => !b

/-- The mask of the operation is a one at the selected place and zeros elsewhere. -/
theorem getLsbD_bitResult {n k : Nat} (op : BitOp) (a : BitVec n) (b : Nat) (hk : k < n) :
    (bitResult op a b).getLsbD k = if k = b then selectedBit op (a.getLsbD k) else a.getLsbD k := by
  have hmask := getLsbD_bitMask b hk
  by_cases hb : k = b
  · rw [decide_eq_true hb] at hmask
    rw [if_pos hb]
    cases op <;> simp [bitResult, selectedBit, hmask]
  · rw [decide_eq_false hb] at hmask
    rw [if_neg hb]
    cases op <;> simp [bitResult, getLsbD_not_of_lt _ hk, hmask]

/-- `v` is the operand `a` with the selected bit as the operation makes it and the other bits as they were, and the
status flags are kept (R470). -/
def ChangesBit (op : BitOp) {w : Width} (a : State → BitVec w.bits) (number : State → Byte) (s : State)
    (v : BitVec w.bits) (f : Psw) : Prop :=
  (∀ k, k < w.bits → v.getLsbD k =
    if k = (number s).toNat % w.bits then selectedBit op ((a s).getLsbD k) else (a s).getLsbD k) ∧ StatusKept s.psw f

/-- An instruction that is a single-bit operation on a register. -/
theorem PutsReg.bit (op : BitOp) {i : Instr} {w : Width} {r : Reg} {number : State → Byte}
    (h : ∀ s, exec i s = .next (s.bitReg op w r (number s))) :
    PutsReg i w r (ChangesBit op (fun s => s.getReg w r) number) :=
  .intro_noflags _ h fun s => ⟨fun _ => getLsbD_bitResult op _ _, .refl s.psw⟩

/-- An instruction that is a single-bit operation on its memory operand (R472). -/
theorem PutsMem.bit (op : BitOp) {i : Instr} {w : Width} {m : Mem} {number : State → Byte}
    (h : ∀ s, exec i s = .next (s.bitMem op w m (number s))) :
    PutsMem i w m (ChangesBit op (fun s => s.readOperand w m) number) :=
  .intro_noflags _ h fun s => ⟨fun _ => getLsbD_bitResult op _ _, .refl s.psw⟩

end Sys2Proof.Machine

open Sys2Proof Sys2Proof.Machine

/-- Settles O30: each form of TEST1 is a bit test of the operand and the number that it names, and the instructions on
CY and DIR set that flag. -/
theorem bitTestsAndFlagBits : Obligations.BitTestsAndFlagBits :=
  ⟨fun _ _ _ =>
    ⟨.test1 .byte fun _ => rfl, .test1 .byte fun _ => rfl, .test1 .word fun _ => rfl, .test1 .word fun _ => rfl,
      .test1 .byte fun _ => rfl, .test1 .byte fun _ => rfl, .test1 .word fun _ => rfl, .test1 .word fun _ => rfl⟩,
    .carry fun _ => rfl, .carry fun _ => rfl, .carry fun _ => rfl, fun _ => ⟨rfl, rfl⟩⟩

/-- Settles O31: each form is one write of the result of its operation, in a register or in memory. -/
theorem bitsOfOperandsChanged : Obligations.BitsOfOperandsChanged := by
  intro r m n
  refine ⟨?not1, ?clr1, ?set1⟩
  case not1 =>
    exact ⟨.bit .not1 fun _ => rfl, .bit .not1 fun _ => rfl, .bit .not1 fun _ => rfl, .bit .not1 fun _ => rfl,
      .bit .not1 fun _ => rfl, .bit .not1 fun _ => rfl, .bit .not1 fun _ => rfl, .bit .not1 fun _ => rfl⟩
  case clr1 =>
    exact ⟨.bit .clr1 fun _ => rfl, .bit .clr1 fun _ => rfl, .bit .clr1 fun _ => rfl, .bit .clr1 fun _ => rfl,
      .bit .clr1 fun _ => rfl, .bit .clr1 fun _ => rfl, .bit .clr1 fun _ => rfl, .bit .clr1 fun _ => rfl⟩
  case set1 =>
    exact ⟨.bit .set1 fun _ => rfl, .bit .set1 fun _ => rfl, .bit .set1 fun _ => rfl, .bit .set1 fun _ => rfl,
      .bit .set1 fun _ => rfl, .bit .set1 fun _ => rfl, .bit .set1 fun _ => rfl, .bit .set1 fun _ => rfl⟩

end

section
/-! SUPPORT. Shifts and rotates (R520 to R566): the steps of R522 taken one after the other are the shift or the rotate
by their number, with CY as one bit more of the rotates through it. -/

namespace Sys2Proof.Machine

/-! ## Rotations of a bit vector -/

section Rotations

variable {n : Nat}

/-- A rotation to the right takes each bit from the place `k` above it, around the end. -/
theorem getLsbD_rotateRight_mod (x : BitVec n) (k i : Nat) :
    (x.rotateRight k).getLsbD i = (decide (i < n) && x.getLsbD ((k + i) % n)) := by
  by_cases hi : i < n
  · have hk : k % n < n := Nat.mod_lt k (by omega)
    rw [BitVec.getLsbD_rotateRight, ← Nat.mod_add_mod]
    generalize k % n = m at hk
    obtain hlow | hhigh := Nat.lt_or_ge i (n - m)
    · rw [Nat.mod_eq_of_lt (by omega : m + i < n)]
      simp [hlow, hi]
    · rw [Nat.mod_eq_sub_mod (by omega : n ≤ m + i), Nat.mod_eq_of_lt (by omega : m + i - n < n),
        show m + i - n = i - (n - m) by omega]
      simp [hhigh.not_gt, hi]
  · rw [BitVec.getLsbD_of_ge _ _ (by omega), decide_eq_false hi, Bool.false_and]

theorem rotateLeft_zero (x : BitVec n) : x.rotateLeft 0 = x := by
  simp [BitVec.rotateLeft_def, BitVec.ushiftRight_eq_zero]

theorem rotateRight_zero (x : BitVec n) : x.rotateRight 0 = x := by
  simp [BitVec.rotateRight_def]

theorem rotateLeft_rotateLeft (x : BitVec n) (j k : Nat) : (x.rotateLeft j).rotateLeft k = x.rotateLeft (j + k) := by
  refine BitVec.eq_of_getMsbD_eq fun i hi => ?_
  have hmod : (k + i) % n < n := Nat.mod_lt _ (by omega)
  simp [BitVec.getMsbD_rotateLeft, hmod, Nat.add_assoc]

theorem rotateRight_rotateRight (x : BitVec n) (j k : Nat) :
    (x.rotateRight j).rotateRight k = x.rotateRight (j + k) := by
  refine BitVec.eq_of_getLsbD_eq fun i hi => ?_
  have hmod : (k + i) % n < n := Nat.mod_lt _ (by omega)
  simp only [getLsbD_rotateRight_mod, hi, hmod, decide_true, Bool.true_and, Nat.add_mod_mod, Nat.add_assoc]

theorem getLsbD_carryIn (c : Bool) (i : Nat) (hn : 0 < n) :
    (carryIn c : BitVec n).getLsbD i = (decide (i = 0) && c) := by
  cases c <;> simp [carryIn, hn]

/-- A rotation by one to the left puts the bit that leaves at the top into the lowest place. -/
theorem rotateLeft_one (x : BitVec n) (hn : 1 < n) : x.rotateLeft 1 = x <<< 1 ||| carryIn x.msb := by
  refine BitVec.eq_of_getLsbD_eq fun i hi => ?_
  rw [BitVec.getLsbD_rotateLeft, Nat.mod_eq_of_lt hn, BitVec.getLsbD_or, BitVec.getLsbD_shiftLeft,
    getLsbD_carryIn _ _ (by omega), BitVec.msb_eq_getLsbD_last]
  obtain rfl | hpos := Nat.eq_zero_or_pos i
  · simp
  · simp [hi, show ¬ i < 1 by omega, show i ≠ 0 by omega]

/-- A rotation by one to the right puts the bit that leaves at the bottom into the highest place. -/
theorem rotateRight_one (x : BitVec n) (hn : 1 < n) :
    x.rotateRight 1 = x >>> 1 ||| carryIn (x.getLsbD 0) <<< (n - 1) := by
  refine BitVec.eq_of_getLsbD_eq fun i hi => ?_
  rw [BitVec.getLsbD_rotateRight, Nat.mod_eq_of_lt hn, BitVec.getLsbD_or, BitVec.getLsbD_shiftLeft,
    getLsbD_carryIn _ _ (by omega), BitVec.getLsbD_ushiftRight]
  obtain hlow | rfl : i < n - 1 ∨ i = n - 1 := by omega
  · simp [hi, hlow]
  · simp [hi, show 1 + (n - 1) = n by omega]

/-- The carry as one bit more, above the value: what the rotates through CY rotate (R522). -/
def withCarry (xc : BitVec n × Bool) : BitVec (n + 1) := BitVec.cons xc.2 xc.1

/-- The value and the carry of `n + 1` bits. -/
def splitCarry (x : BitVec (n + 1)) : BitVec n × Bool := (x.setWidth n, x.msb)

@[simp] theorem splitCarry_withCarry (xc : BitVec n × Bool) : splitCarry (withCarry xc) = xc :=
  Prod.ext BitVec.setWidth_cons BitVec.msb_cons

@[simp] theorem withCarry_splitCarry (x : BitVec (n + 1)) : withCarry (splitCarry x) = x := BitVec.cons_msb_setWidth x

end Rotations

/-! ## One step (R522) -/

section Steps

variable {n : Nat} (x : BitVec n) (c : Bool)

theorem shiftStep_rol (hn : 1 < n) :
    shiftStep .rol x c = (x.rotateLeft 1, (x.rotateLeft 1).getLsbD 0) := by
  have hlow : (x.rotateLeft 1).getLsbD 0 = x.msb := by
    rw [rotateLeft_one x hn, BitVec.getLsbD_or, getLsbD_carryIn _ _ (by omega)]
    simp
  rw [hlow, rotateLeft_one x hn]
  rfl

theorem shiftStep_ror (hn : 1 < n) : shiftStep .ror x c = (x.rotateRight 1, (x.rotateRight 1).msb) := by
  have hhigh : (x.rotateRight 1).msb = x.getLsbD 0 := by
    rw [BitVec.msb_eq_getLsbD_last, getLsbD_rotateRight_mod, show 1 + (n - 1) = n by omega, Nat.mod_self,
      decide_eq_true (by omega), Bool.true_and]
  rw [hhigh, rotateRight_one x hn]
  rfl

/-- A step of ROLC is a rotation by one of the carry and the value together. -/
theorem withCarry_shiftStep_rolc (hn : 1 < n) :
    withCarry (shiftStep .rolc x c) = (withCarry (x, c)).rotateLeft 1 := by
  rw [rotateLeft_one _ (by omega)]
  refine BitVec.eq_of_getLsbD_eq fun i hi => ?_
  simp only [withCarry, shiftStep, BitVec.getLsbD_cons, BitVec.getLsbD_or, BitVec.getLsbD_shiftLeft, BitVec.msb_cons,
    getLsbD_carryIn _ _ (show 0 < n by omega), getLsbD_carryIn _ _ (show 0 < n + 1 by omega), decide_eq_true hi]
  obtain rfl | hlow : i = n ∨ i < n := by omega
  · simp [BitVec.msb_eq_getLsbD_last, show ¬ i < 1 by omega, show i ≠ 0 by omega, show i - 1 ≠ i by omega]
  · simp [hlow, show i ≠ n by omega, show i - 1 ≠ n by omega]

/-- A step of RORC is a rotation by one of the carry and the value together. -/
theorem withCarry_shiftStep_rorc (hn : 1 < n) :
    withCarry (shiftStep .rorc x c) = (withCarry (x, c)).rotateRight 1 := by
  rw [rotateRight_one _ (by omega)]
  refine BitVec.eq_of_getLsbD_eq fun i hi => ?_
  simp only [withCarry, shiftStep, BitVec.getLsbD_cons, BitVec.getLsbD_or, BitVec.getLsbD_shiftLeft,
    BitVec.getLsbD_ushiftRight, getLsbD_carryIn _ _ (show 0 < n by omega),
    getLsbD_carryIn _ _ (show 0 < n + 1 by omega), decide_eq_true hi]
  obtain rfl | rfl | hlow : i = n ∨ i = n - 1 ∨ i < n - 1 := by omega
  · simp [show 0 ≠ i by omega]
  · simp [show n - 1 ≠ n by omega, show n - 1 < n by omega, show 1 + (n - 1) = n by omega]
  · simp [hlow, show i ≠ n by omega, show 1 + i ≠ n by omega, show i < n by omega]

end Steps

/-! ## The shift or rotate by a count, as one operation -/

section Counts

variable {n : Nat} (k : Nat) (a : BitVec n) (c : Bool)

theorem shiftedBy_shl_fst : (shiftedBy .shl k a c).1 = a <<< k := by
  cases k <;> simp [shiftedBy]

theorem shiftedBy_shr_fst : (shiftedBy .shr k a c).1 = a >>> k := by
  cases k <;> simp [shiftedBy]

theorem shiftedBy_shra_fst : (shiftedBy .shra k a c).1 = a.sshiftRight k := by
  cases k <;> simp [shiftedBy]

theorem shiftedBy_rol_fst : (shiftedBy .rol k a c).1 = a.rotateLeft k := by
  cases k with
  | zero => exact (rotateLeft_zero a).symm
  | succ k => rfl

theorem shiftedBy_ror_fst : (shiftedBy .ror k a c).1 = a.rotateRight k := by
  cases k with
  | zero => exact (rotateRight_zero a).symm
  | succ k => rfl

/-- ROLC rotates the carry and the value together, whatever the count. -/
theorem shiftedBy_rolc : shiftedBy .rolc k a c = splitCarry ((withCarry (a, c)).rotateLeft k) := by
  cases k with
  | zero => rw [rotateLeft_zero, splitCarry_withCarry]; rfl
  | succ k => rfl

/-- RORC rotates the carry and the value together, whatever the count. -/
theorem shiftedBy_rorc : shiftedBy .rorc k a c = splitCarry ((withCarry (a, c)).rotateRight k) := by
  cases k with
  | zero => rw [rotateRight_zero, splitCarry_withCarry]; rfl
  | succ k => rfl

end Counts

/-! ## Many steps (R522) -/

section ManySteps

variable {n : Nat}

/-- The step that `Iter` takes first may as well be taken last (R522). -/
theorem shiftIter_succ (op : ShiftOp) (k : Nat) (xc : BitVec n × Bool) :
    shiftIter op (k + 1) xc = shiftStep op (shiftIter op k xc).1 (shiftIter op k xc).2 := by
  induction k generalizing xc with
  | zero => rfl
  | succ k ih => exact ih (shiftStep op xc.1 xc.2)

/-- One step after a shift or rotate by `k` makes it one by `k + 1`. -/
theorem shiftStep_shiftedBy (hn : 1 < n) (op : ShiftOp) (k : Nat) (a : BitVec n) (c : Bool) :
    shiftStep op (shiftedBy op k a c).1 (shiftedBy op k a c).2 = shiftedBy op (k + 1) a c := by
  cases op with
  | shl =>
    rw [shiftedBy_shl_fst, shiftStep, ← BitVec.shiftLeft_add]
    rfl
  | shr =>
    rw [shiftedBy_shr_fst, shiftStep, ← BitVec.shiftRight_add]
    rfl
  | shra =>
    rw [shiftedBy_shra_fst, shiftStep, ← BitVec.sshiftRight_add]
    rfl
  | rol =>
    rw [shiftedBy_rol_fst, shiftStep_rol _ _ hn, rotateLeft_rotateLeft]
    rfl
  | ror =>
    rw [shiftedBy_ror_fst, shiftStep_ror _ _ hn, rotateRight_rotateRight]
    rfl
  | rolc =>
    rw [← splitCarry_withCarry (shiftStep _ _ _), withCarry_shiftStep_rolc _ _ hn, shiftedBy_rolc, shiftedBy_rolc,
      withCarry_splitCarry, rotateLeft_rotateLeft]
  | rorc =>
    rw [← splitCarry_withCarry (shiftStep _ _ _), withCarry_shiftStep_rorc _ _ hn, shiftedBy_rorc, shiftedBy_rorc,
      withCarry_splitCarry, rotateRight_rotateRight]

/-- `k` steps are the shift or rotate by `k` (R522). -/
theorem shiftIter_eq_shiftedBy (hn : 1 < n) (op : ShiftOp) (k : Nat) (a : BitVec n) (c : Bool) :
    shiftIter op k (a, c) = shiftedBy op k a c := by
  induction k with
  | zero => rfl
  | succ k ih => rw [shiftIter_succ, ih, shiftStep_shiftedBy hn]

end ManySteps

/-! ## Flags (R521, R523) -/

section Flags

variable {n : Nat}

/-- The flags of at least one step but V, whatever V is. -/
theorem shiftFlags_spec (op : ShiftOp) (v : FlagChange) (r : BitVec n) (cy : Bool) (f : Psw) (free : Word) :
    ShiftFlagsButV op r cy f ((shiftFlags op v r cy).apply f free) := by
  unfold ShiftFlagsButV shiftFlags
  cases isShift op
  · exact ⟨rfl, rfl, rfl, rfl, rfl⟩
  · exact ⟨rfl, SzpOf.intro rfl rfl rfl⟩

/-- The result and the flags of a form with a count. -/
theorem multiFlags_spec (hn : 1 < n) (op : ShiftOp) (k : Nat) (a : BitVec n) (f : Psw) (free : Word) :
    ShiftsBy op k f a (shiftIter op k (a, f.cy)).1 ((multiFlags op a f.cy k).apply f free) := by
  rw [multiFlags, shiftIter_eq_shiftedBy hn]
  refine ⟨rfl, ?_⟩
  by_cases hk : k = 0
  · rw [if_pos hk, if_pos hk]
    exact ⟨rfl, rfl, rfl, rfl, fun hrotate => by simp [zeroCountFlags, hrotate, FlagEffect.apply, FlagChange.resolve]⟩
  · rw [if_neg hk, if_neg hk]
    exact shiftFlags_spec ..

/-- The result and the flags of a form that shifts once. -/
theorem singleFlags_spec (hn : 1 < n) (op : ShiftOp) (a : BitVec n) (f : Psw) (free : Word) :
    ShiftsOnce op f a (shiftStep op a f.cy).1 ((singleFlags op a f.cy).apply f free) := by
  have hone : shiftStep op a f.cy = shiftedBy op 1 a f.cy := shiftIter_eq_shiftedBy hn op 1 a f.cy
  rw [singleFlags, hone]
  exact ⟨⟨rfl, shiftFlags_spec ..⟩, by cases op <;> rfl⟩

end Flags

/-! ## The forms -/

section Forms

variable {i : Instr} {op : ShiftOp} {w : Width}

/-- An instruction that shifts a register once. -/
theorem PutsReg.shiftOnce {r : Reg} (h : ∀ s, exec i s = .next (s.shiftReg1 op w r)) :
    PutsReg i w r fun s => ShiftsOnce op s.psw (s.getReg w r) :=
  .intro _ _ h fun _ => singleFlags_spec w.one_lt_bits ..

/-- An instruction that shifts its memory operand once (R524). -/
theorem PutsMem.shiftOnce {m : Mem} (h : ∀ s, exec i s = .next (s.shiftMem1 op w m)) :
    PutsMem i w m fun s => ShiftsOnce op s.psw (s.readOperand w m) :=
  .intro _ _ h fun _ => singleFlags_spec w.one_lt_bits ..

/-- An instruction that shifts a register by a count (R521). -/
theorem PutsReg.shiftBy {r : Reg} {count : State → Byte}
    (h : ∀ s, exec i s = .next (s.shiftReg op w r (count s))) :
    PutsReg i w r fun s => ShiftsBy op (count s).toNat s.psw (s.getReg w r) :=
  .intro _ _ h fun _ => multiFlags_spec w.one_lt_bits ..

/-- An instruction that shifts its memory operand by a count (R521, R524). -/
theorem PutsMem.shiftBy {m : Mem} {count : State → Byte}
    (h : ∀ s, exec i s = .next (s.shiftMem op w m (count s))) :
    PutsMem i w m fun s => ShiftsBy op (count s).toNat s.psw (s.readOperand w m) :=
  .intro _ _ h fun _ => multiFlags_spec w.one_lt_bits ..

end Forms

end Sys2Proof.Machine

open Sys2Proof Sys2Proof.Machine

/-- Settles O32: each form is one step of its operation, in a register or in memory. -/
theorem singleShiftsAndRotates : Obligations.SingleShiftsAndRotates := by
  intro w r m
  refine ⟨?shl, ?shr, ?shra, ?rol, ?ror, ?rolc, ?rorc⟩ <;>
    exact ⟨.shiftOnce fun _ => rfl, .shiftOnce fun _ => rfl⟩

/-- Settles O33: each form takes as many steps of its operation as CL or the immediate says, and these are the shift or
rotate by the whole count. -/
theorem countedShiftsAndRotates : Obligations.CountedShiftsAndRotates := by
  intro w r m i
  refine ⟨?shl, ?shr, ?shra, ?rol, ?ror, ?rolc, ?rorc⟩ <;>
    exact ⟨.shiftBy fun _ => rfl, .shiftBy fun _ => rfl, .shiftBy fun _ => rfl, .shiftBy fun _ => rfl⟩

end

section
/-! SUPPORT. Branches, calls and returns (R601 to R617, R650 to R669): a jump with what it leaves alone, and the words
that calls push and returns pop. -/

namespace Sys2Proof.Machine

/-! ## Branches -/

/-- An instruction that is a jump: the target, the queue cleared, nothing else (R39). -/
theorem exec_jumpFar {i : Instr} {s : State} {seg off : Word} {pc : Int} (h : exec i s = .next (s.jumpFar seg off))
    (hpc : (off.toNat : Int) = pc) :
    ∃ t, exec i s = .next t ∧ (t.pc.toNat : Int) = pc ∧ t = { s with ps := seg, pc := t.pc, queue := [] } :=
  ⟨_, h, hpc, rfl⟩

/-- A short branch under a condition, from a state `u` that differs from the first one where CW has been counted down
(R650, R667). -/
theorem exec_shortBranch {i : Instr} {s u : State} {c : Bool} {disp : Byte} {taken : Prop}
    (h : exec i s = .next (u.branchIf c disp)) (hc : c = true ↔ taken) :
    (taken → ∃ t, exec i s = .next t ∧ (t.pc.toNat : Int) = (u.pc.toNat + disp.toInt) % 65536 ∧
      t = { u with pc := t.pc, queue := [] }) ∧
    (¬taken → exec i s = .next u) := by
  rw [h, State.branchIf]
  refine ⟨fun ht => ?_, fun hn => ?_⟩
  · rw [if_pos (hc.2 ht)]
    exact ⟨_, rfl, toNat_add_sext16 u.pc disp, rfl⟩
  · rw [if_neg (mt hc.1 hn)]

/-- CW counted down as a number (R667). -/
theorem State.countDown_eq (s : State) : s.countDown = { s with cw := BitVec.ofNat 16 (s.cw.toNat + 65535) } := by
  have hcw : s.cw - 1 = BitVec.ofNat 16 (s.cw.toNat + 65535) := by bv_omega
  rw [State.countDown, hcw]

/-- CW has not been counted down to 0 exactly where it was not 1 (R667). -/
theorem State.countDown_cw_ne_zero (s : State) : (s.countDown.cw != 0) = true ↔ s.cw.toNat ≠ 1 := by
  rw [State.countDown_cw, bne_iff_ne]
  bv_omega

/-- A loop branch: CW is counted down, and the branch is taken under the condition (R667 to R669). -/
theorem exec_loopBranch {i : Instr} {s : State} {c : Bool} {disp : Byte} {taken : Prop}
    (h : exec i s = .next (s.countDown.branchIf c disp)) (hc : c = true ↔ taken) :
    (taken → ∃ t, exec i s = .next t ∧ (t.pc.toNat : Int) = (s.pc.toNat + disp.toInt) % 65536 ∧
      t = { s with cw := BitVec.ofNat 16 (s.cw.toNat + 65535), pc := t.pc, queue := [] }) ∧
    (¬taken → exec i s = .next { s with cw := BitVec.ofNat 16 (s.cw.toNat + 65535) }) := by
  rw [State.countDown_eq] at h
  generalize BitVec.ofNat 16 (s.cw.toNat + 65535) = cw at h ⊢
  exact exec_shortBranch (u := { s with cw := cw }) h hc

/-! ## Calls and returns -/

/-- A call inside the segment pushes PC and goes to its target (R601 to R603). -/
theorem exec_callNear {i : Instr} {s : State} {target : Word} (hs : Memory.wf s.mem = true)
    (h : exec i s = .next ((s.push s.pc).jump target)) :
    ∃ t, exec i s = .next t ∧ t.sp = s.sp - 2 ∧ t.readWord s.ss (s.sp - 2) = s.pc ∧
      MemKeptOutside 2 s.ss (s.sp - 2) s t ∧ t = { s with sp := t.sp, mem := t.mem, pc := target, queue := [] } := by
  obtain ⟨hsp, hword, houtside, -⟩ := State.push_spec hs s.pc
  exact ⟨_, h, hsp, hword, houtside, rfl⟩

/-- A far call pushes PS, then PC, and goes to its target (R604, R605). -/
theorem exec_callFar {i : Instr} {s : State} {seg off : Word} (hs : Memory.wf s.mem = true)
    (h : exec i s = .next (((s.push s.ps).push s.pc).jumpFar seg off)) :
    ∃ t, exec i s = .next t ∧ t.sp = s.sp - 4 ∧ t.readWord s.ss (s.sp - 2) = s.ps ∧
      t.readWord s.ss (s.sp - 4) = s.pc ∧ MemKeptOutside 4 s.ss (s.sp - 4) s t ∧
      t = { s with sp := t.sp, mem := t.mem, ps := seg, pc := off, queue := [] } := by
  obtain ⟨hsp, hwords, houtside, -, -⟩ := State.pushAll_spec [s.ps, s.pc] s hs (by simp)
  exact ⟨_, h, hsp, hwords 0 (by simp), hwords 1 (by simp), houtside, rfl⟩

/-- Of the general registers a push changes SP alone (R630). -/
theorem State.getReg16_push (s : State) (v : Word) (r : Reg) :
    (s.push v).getReg16 r = if r = .ah_sp then s.sp - 2 else s.getReg16 r := by
  cases r <;> rfl

/-- A return inside the segment pops PC and discards `n` bytes (R606, R607). -/
theorem exec_retNear {i : Instr} {s : State} {n : Word} (h : exec i s = .next (s.retNear n)) :
    ∃ t, exec i s = .next t ∧ t.sp.toNat = (s.sp.toNat + 2 + n.toNat) % 65536 ∧
      t = { s with sp := t.sp, pc := s.readWord s.ss s.sp, queue := [] } := by
  have hsp : (s.sp + 2 + n).toNat = (s.sp.toNat + 2 + n.toNat) % 65536 := by bv_omega
  exact ⟨_, h, hsp, rfl⟩

/-- A far return pops PC, then PS, and discards `n` bytes (R608, R609). -/
theorem exec_retFar {i : Instr} {s : State} {n : Word} (h : exec i s = .next (s.retFar n)) :
    ∃ t, exec i s = .next t ∧ t.sp.toNat = (s.sp.toNat + 4 + n.toNat) % 65536 ∧
      t = { s with sp := t.sp, pc := s.readWord s.ss s.sp, ps := s.readWord s.ss (s.sp + 2), queue := [] } := by
  have hsp : (s.sp + 2 + 2 + n).toNat = (s.sp.toNat + 4 + n.toNat) % 65536 := by bv_omega
  exact ⟨_, h, hsp, rfl⟩

end Sys2Proof.Machine

open Sys2Proof Sys2Proof.Machine

/-- Settles O40: each form is a jump to the target that it names. -/
theorem branchesGoToTheirTargets : Obligations.BranchesGoToTheirTargets := by
  intro s d d8 r m seg
  have hnear : ((s.pc + d).toNat : Int) = (s.pc.toNat + d.toNat) % 65536 := by
    rw [BitVec.toNat_add]
    rfl
  have hhigh : exec (.brMem32 m) s = .next (s.jumpFar (s.readWord (s.segOf m) (BitVec.ofNat 16 ((s.ea m).toNat + 2)))
      (s.readLow m)) := by
    rw [ofNat_add_two]
    rfl
  exact ⟨exec_jumpFar rfl hnear, exec_jumpFar rfl (toNat_add_sext16 s.pc d8), exec_jumpFar rfl rfl,
    exec_jumpFar rfl rfl, exec_jumpFar rfl rfl, exec_jumpFar hhigh rfl⟩

/-- Settles O39: each condition of the model, as a Boolean, says what the listing's condition on the flags or on CW
says. -/
theorem conditionalBranches : Obligations.ConditionalBranches := by
  refine ⟨fun s disp => ?flags, fun s disp => ?counter⟩
  case flags =>
    have hclear : ∀ b : Bool, (!b) = true ↔ b = false := fun b => by rw [Bool.not_eq_true']
    have hless : (s.psw.s ^^ s.psw.v) = true ↔ s.psw.s ≠ s.psw.v := bne_iff_ne
    have hnotLess : (!(s.psw.s ^^ s.psw.v)) = true ↔ s.psw.s = s.psw.v := by
      rw [hclear, ← Bool.not_eq_true, hless, not_not]
    have hnotHigher : (s.psw.cy || s.psw.z) = true ↔ s.psw.cy = true ∨ s.psw.z = true := by rw [Bool.or_eq_true]
    have hhigher : (!(s.psw.cy || s.psw.z)) = true ↔ s.psw.cy = false ∧ s.psw.z = false := by
      rw [hclear, Bool.or_eq_false_iff]
    have hlessEqual : ((s.psw.s ^^ s.psw.v) || s.psw.z) = true ↔ s.psw.s ≠ s.psw.v ∨ s.psw.z = true := by
      rw [Bool.or_eq_true, hless]
    have hgreater : (!((s.psw.s ^^ s.psw.v) || s.psw.z)) = true ↔ s.psw.s = s.psw.v ∧ s.psw.z = false := by
      rw [hclear, Bool.or_eq_false_iff, ← hclear, hnotLess]
    exact ⟨exec_shortBranch rfl .rfl, exec_shortBranch rfl (hclear _), exec_shortBranch rfl .rfl,
      exec_shortBranch rfl (hclear _), exec_shortBranch rfl .rfl, exec_shortBranch rfl (hclear _),
      exec_shortBranch rfl hnotHigher, exec_shortBranch rfl hhigher, exec_shortBranch rfl .rfl,
      exec_shortBranch rfl (hclear _), exec_shortBranch rfl .rfl, exec_shortBranch rfl (hclear _),
      exec_shortBranch rfl hless, exec_shortBranch rfl hnotLess, exec_shortBranch rfl hlessEqual,
      exec_shortBranch rfl hgreater⟩
  case counter =>
    have hnotEqual : (s.countDown.cw != 0 && !s.psw.z) = true ↔ s.cw.toNat ≠ 1 ∧ s.psw.z = false := by
      rw [Bool.and_eq_true, s.countDown_cw_ne_zero, Bool.not_eq_true']
    have hequal : (s.countDown.cw != 0 && s.psw.z) = true ↔ s.cw.toNat ≠ 1 ∧ s.psw.z = true := by
      rw [Bool.and_eq_true, s.countDown_cw_ne_zero]
    have hzero : (s.cw == 0) = true ↔ s.cw.toNat = 0 := by rw [beq_iff_eq, toNat_eq_zero_iff]
    exact ⟨exec_loopBranch rfl hnotEqual, exec_loopBranch rfl hequal, exec_loopBranch rfl s.countDown_cw_ne_zero,
      exec_shortBranch rfl hzero⟩

/-- Settles O41: each form is the pushes of a near or a far call; a target in a register is another one after them only
where the register is SP. -/
theorem callsPushTheReturnAddress : Obligations.CallsPushTheReturnAddress := by
  intro s d seg r m hs
  have hreg : exec (.callReg16 r) s =
      .next ((s.push s.pc).jump (if r = .ah_sp then s.sp - 2 else s.getReg16 r)) := by
    rw [← State.getReg16_push s s.pc]
    rfl
  exact ⟨exec_callNear hs rfl, exec_callNear hs hreg, exec_callNear hs rfl, exec_callFar hs rfl, exec_callFar hs rfl⟩

/-- Settles O42: a form without a pop value discards no bytes. -/
theorem returnsPopTheReturnAddress : Obligations.ReturnsPopTheReturnAddress := fun _ _ =>
  ⟨exec_retNear (n := 0) rfl, exec_retNear rfl, exec_retFar (n := 0) rfl, exec_retFar rfl⟩

end

section
/-! SUPPORT. PUSH and POP (R630 to R647), and the stack frames of PREPARE and DISPOSE (R648, R649). -/

namespace Sys2Proof.Machine

/-! ## Push and pop -/

/-- PUSH of a register stores its value before the push, of SP too (D44). -/
theorem State.pushedReg_eq (s : State) (r : Reg) : s.pushedReg r = s.getReg16 r := by
  cases r <;> rfl

/-- A pop leaves the address of a memory operand: no address is formed from SP (R140, R141). -/
theorem State.ea_popped (s : State) (m : Mem) : s.popped.ea m = s.ea m := by
  cases m with
  | direct => rfl
  | ind f | disp8 f | disp16 f => cases f <;> rfl

/-- A pop leaves the segment of a memory operand: SP is no segment register (R142, R143). -/
theorem State.segOf_popped (s : State) (m : Mem) : s.popped.segOf m = s.segOf m := by
  unfold State.segOf State.overridden
  rw [State.popped_pfx]
  cases s.pfx.seg.getD (memSeg m) <;> rfl

/-- A pop into a register (R631, R642, D43). -/
theorem exec_popReg {i : Instr} {s : State} {r : Reg} (h : exec i s = .next (s.popReg r)) :
    ∃ t, exec i s = .next t ∧ t.getReg16 r = s.readWord s.ss s.sp ∧
      OtherRegsKept .word r { s with sp := s.sp + 2 } t ∧ OnlyRegs s t :=
  ⟨_, h, State.getReg16_setReg16 .., State.setReg_others s.popped .word r _,
    OnlyRegs.trans (t := s.popped) rfl (State.setReg_only s.popped .word r _)⟩

/-- POP into memory: the address is that before the pop (R139, R641). -/
theorem exec_popMem16 {s : State} (m : Mem) (hs : Memory.wf s.mem = true) :
    ∃ t, exec (.popMem16 m) s = .next t ∧ t.readWord (s.segOf m) (s.ea m) = s.readWord s.ss s.sp ∧
      MemKeptOutside 2 (s.segOf m) (s.ea m) s t ∧ t = { s with sp := s.sp + 2, mem := t.mem } := by
  rw [← State.segOf_popped, ← State.ea_popped]
  exact ⟨_, rfl, State.readWord_writeWord (s := s.popped) hs _ _ _, s.popped.writeWord_outside _ _ _, rfl⟩

/-- POP of a segment register opens the window (R643, R765). -/
theorem exec_popSreg {s : State} {sr : Sreg} (hps : sr ≠ .ps) :
    ∃ t, exec (.popSreg sr) s = .next t ∧ t.getSreg sr = s.readWord s.ss s.sp ∧
      (∀ x, x ≠ sr → t.getSreg x = s.getSreg x) ∧
      t = { s with ss := t.ss, ds0 := t.ds0, ds1 := t.ds1, sp := s.sp + 2, inhibitAll := true } := by
  have hread := fun x => s.popped.getSreg_setSreg sr x s.popValue
  refine ⟨_, rfl, (hread sr).trans (if_pos rfl), fun x hx => (hread x).trans ?_, ?_⟩
  · rw [if_neg hx]
    cases x <;> rfl
  · exact s.popped.setSreg_inhibitingAll_only hps s.popValue

/-- PUSH R is eight pushes, SP as it was before the first (R637). -/
theorem exec_pushR (s : State) :
    exec .pushR s = .next (s.pushAll [s.aw, s.cw, s.dw, s.bw, s.sp, s.bp, s.ix, s.iy]) := rfl

/-- POP R is eight pops, the fifth image skipped (R647). -/
theorem exec_popR (s : State) :
    exec .popR s = .next { s with
      iy := s.readWord s.ss s.sp, ix := s.readWord s.ss (s.sp + 2), bp := s.readWord s.ss (s.sp + 4)
      bw := s.readWord s.ss (s.sp + 8), dw := s.readWord s.ss (s.sp + 10), cw := s.readWord s.ss (s.sp + 12)
      aw := s.readWord s.ss (s.sp + 14), sp := s.sp + 16 } := by
  show execPopR s = _
  simp only [execPopR, State.popReg, State.setReg16, State.popped, State.popValue, State.readWord, State.readByte,
    BitVec.add_assoc, BitVec.ofNat_eq_ofNat, BitVec.reduceAdd]

/-! ## Offsets below a pointer -/

/-- A byte counted from `a` bytes below an offset, counted from `b` bytes below it. -/
theorem sub_ofNat_add_ofNat (x : Word) {a b : Nat} (h : b ≤ a) (k : Nat) :
    x - BitVec.ofNat 16 a + BitVec.ofNat 16 (a - b + k) = x - BitVec.ofNat 16 b + BitVec.ofNat 16 k := by
  bv_omega

theorem sub_two_sub_ofNat (x : Word) (n : Nat) :
    x - 2 - BitVec.ofNat 16 (2 * n) = x - BitVec.ofNat 16 (2 * (n + 1)) := by
  bv_omega

/-! ## The words that PREPARE copies -/

/-- BP is neither read nor written by pushes. -/
theorem State.pushAll_bp (s : State) (b : Word) (ws : List Word) :
    { s with bp := b }.pushAll ws = { s.pushAll ws with bp := b } := by
  induction ws generalizing s with
  | nil => rfl
  | cons w ws ih => exact ih (s.push w)

theorem State.pushAll_append (s : State) (vs ws : List Word) : s.pushAll (vs ++ ws) = (s.pushAll vs).pushAll ws :=
  List.foldl_append

/-- The `a` words below BP have no byte in common with the `b` words below SP. -/
def State.DisplayApart (s : State) (a b : Nat) : Prop :=
  ∀ j k, j < 2 * a → k < 2 * b →
    s.bp - BitVec.ofNat 16 (2 * a) + BitVec.ofNat 16 j ≠ s.sp - BitVec.ofNat 16 (2 * b) + BitVec.ofNat 16 k

namespace State.DisplayApart

variable {s : State} {a b : Nat}

theorem mono {a' b' : Nat} (h : s.DisplayApart a b) (ha : a' ≤ a) (hb : b' ≤ b) : s.DisplayApart a' b' := by
  intro j k hj hk
  have hne := h (2 * a - 2 * a' + j) (2 * b - 2 * b' + k) (by omega) (by omega)
  rwa [sub_ofNat_add_ofNat _ (by omega), sub_ofNat_add_ofNat _ (by omega)] at hne

/-- A push leaves the words below BP that are apart from it. -/
theorem readWord_push {j : Nat} (h : s.DisplayApart a b) (ha : j + 1 ≤ a) (hb : 1 ≤ b) (v : Word) :
    (s.push v).readWord s.ss (s.bp - BitVec.ofNat 16 (2 * (j + 1))) =
      s.readWord s.ss (s.bp - BitVec.ofNat 16 (2 * (j + 1))) := by
  have hapart := h.mono ha hb
  have houtside : MemKeptOutside 2 s.ss (s.sp - 2) s (s.push v) :=
    State.writeWord_outside { s with sp := s.sp - 2 } _ _ _
  refine houtside.readWord (fun k hk => ?low) fun k hk => ?high
  case low => exact fun heq => hapart 0 k (by omega) hk ((BitVec.add_zero _).trans heq)
  case high => exact hapart 1 k (by omega) hk

/-- After one word of the display has been copied. -/
theorem copied (h : s.DisplayApart (a + 1) (b + 1)) (v : Word) :
    ({ s with bp := s.bp - 2 }.push v).DisplayApart a b := by
  intro j k hj hk
  have hne := h j k (by omega) (by omega)
  rwa [← sub_two_sub_ofNat, ← sub_two_sub_ofNat] at hne

/-- After another word has been pushed. -/
theorem push (h : s.DisplayApart a (b + 1)) (v : Word) : (s.push v).DisplayApart a b := by
  intro j k hj hk
  have hne := h j k hj (by omega)
  rwa [← sub_two_sub_ofNat s.sp] at hne

end State.DisplayApart

/-- The display is copied by as many pushes as it has words, and BP steps down past them (R648). Where it lies apart
from the copy, each word is the one that stood below BP at first. -/
theorem State.copyDisplay_eq_pushAll (n : Nat) (s : State) :
    ∃ ws : List Word, ws.length = n ∧
      State.copyDisplay n s = { s.pushAll ws with bp := s.bp - BitVec.ofNat 16 (2 * n) } ∧
      (s.DisplayApart n n → ∀ j (hj : j < ws.length),
        ws[j] = s.readWord s.ss (s.bp - BitVec.ofNat 16 (2 * (j + 1)))) := by
  induction n generalizing s with
  | zero => exact ⟨[], rfl, by simp [State.copyDisplay, State.pushAll], fun _ _ hj => absurd hj (Nat.not_lt_zero _)⟩
  | succ n ih =>
    let w := s.readWord s.ss (s.bp - 2)
    obtain ⟨ws, hlen, hcopy, hwords⟩ := ih ({ s with bp := s.bp - 2 }.push w)
    refine ⟨w :: ws, congrArg (· + 1) hlen, ?_, fun hapart j hj => ?_⟩
    · calc State.copyDisplay (n + 1) s
          = State.copyDisplay n ({ s with bp := s.bp - 2 }.push w) := rfl
        _ = { { s.push w with bp := s.bp - 2 }.pushAll ws with bp := s.bp - 2 - BitVec.ofNat 16 (2 * n) } := hcopy
        _ = { s.pushAll (w :: ws) with bp := s.bp - BitVec.ofNat 16 (2 * (n + 1)) } := by
          rw [State.pushAll_bp, sub_two_sub_ofNat]
          rfl
    · cases j with
      | zero => rfl
      | succ j =>
        have hj' : j < ws.length := Nat.lt_of_succ_lt_succ hj
        calc ws[j] = (s.push w).readWord s.ss (s.bp - 2 - BitVec.ofNat 16 (2 * (j + 1))) :=
              hwords (hapart.copied w) j hj'
          _ = s.readWord s.ss (s.bp - BitVec.ofNat 16 (2 * (j + 2))) := by
            rw [sub_two_sub_ofNat]
            exact hapart.readWord_push (by omega) (by omega) w

/-! ## PREPARE and DISPOSE -/

/-- The words that PREPARE of level `n` pushes after BP: those of the display but the last, which is the frame base
(R648). -/
structure FrameWords (s : State) (n : Nat) (ws : List Word) : Prop where
  length : ws.length = n
  last : 0 < n → ws[n - 1]? = some (s.sp - 2)
  copied : s.DisplayApart n (n + 1) → ∀ j, j + 1 < n →
    ws[j]? = some (s.readWord s.ss (s.bp - BitVec.ofNat 16 (2 * (j + 1))))

/-- PREPARE pushes BP and the words of the frame, makes BP the frame base, and moves SP down by the size (R648). -/
theorem exec_prepare (s : State) (size : Word) (level : Byte) :
    ∃ ws, FrameWords s level.toNat ws ∧
      exec (.prepare size level) s = .next { s.pushAll (s.bp :: ws) with
        bp := s.sp - 2, sp := (s.pushAll (s.bp :: ws)).sp - size } := by
  show ∃ ws, _ ∧ execPrepare size level s = _
  rcases Nat.eq_zero_or_pos level.toNat with hzero | hpos
  · refine ⟨[], ⟨hzero.symm, fun h => by omega, fun _ _ h => by omega⟩, ?_⟩
    rw [execPrepare, if_pos (toNat_eq_zero_iff.1 hzero)]
    rfl
  · obtain ⟨m, hm⟩ : ∃ m, level.toNat = m + 1 := ⟨_, (Nat.sub_add_cancel hpos).symm⟩
    have hne : level ≠ 0 := fun h => by rw [h] at hpos; exact absurd hpos (by decide)
    obtain ⟨ws, hlen, hcopy, hwords⟩ := State.copyDisplay_eq_pushAll m (s.push s.bp)
    rw [hm]
    refine ⟨ws ++ [s.sp - 2], ⟨?length, fun _ => ?last, fun hapart j hj => ?copied⟩, ?pushes⟩
    case length => simp [hlen]
    case last => simp [← hlen]
    case copied =>
      have hj' : j < ws.length := by omega
      rw [List.getElem?_append_left hj', List.getElem?_eq_getElem hj',
        hwords ((hapart.mono (Nat.le_succ m) (Nat.le_succ _)).push s.bp) j hj']
      exact congrArg some (hapart.readWord_push (by omega) (by omega) s.bp)
    case pushes =>
      have hall : s.pushAll (s.bp :: (ws ++ [s.sp - 2])) = ((s.push s.bp).pushAll ws).push (s.sp - 2) :=
        (s.push s.bp).pushAll_append ws [s.sp - 2]
      rw [hall, execPrepare, if_neg hne, hm, Nat.add_sub_cancel, hcopy]
      rfl

/-- What PREPARE leaves in memory and in BP and SP (R648). -/
theorem exec_prepare_spec {s : State} (hs : Memory.wf s.mem = true) (size : Word) (level : Byte) :
    let n := level.toNat
    ∃ t, exec (.prepare size level) s = .next t ∧ t.bp = s.sp - 2 ∧
      t.sp = s.sp - 2 - BitVec.ofNat 16 (2 * n) - size ∧ t.readWord s.ss (s.sp - 2) = s.bp ∧
      (0 < n → t.readWord s.ss (s.sp - 2 - BitVec.ofNat 16 (2 * n)) = s.sp - 2) ∧
      (s.DisplayApart n (n + 1) → ∀ j, 0 < j → j < n →
        t.readWord s.ss (s.sp - 2 - BitVec.ofNat 16 (2 * j)) = s.readWord s.ss (s.bp - BitVec.ofNat 16 (2 * j))) ∧
      MemKeptOutside (2 * n + 2) s.ss (s.sp - 2 - BitVec.ofNat 16 (2 * n)) s t ∧
      t = { s with sp := t.sp, bp := t.bp, mem := t.mem } := by
  intro n
  have hn : n < 256 := level.isLt
  obtain ⟨ws, ⟨hlen, hlast, hcopied⟩, hexec⟩ := exec_prepare s size level
  have hlength : (s.bp :: ws).length = n + 1 := congrArg (· + 1) hlen
  obtain ⟨hsp, hwords, houtside, honly, -⟩ := State.pushAll_spec (s.bp :: ws) s hs (by omega)
  rw [hlength, ← sub_two_sub_ofNat] at hsp houtside
  have hbelow : ∀ j v, 0 < j → ws[j - 1]? = some v →
      (s.pushAll (s.bp :: ws)).readWord s.ss (s.sp - 2 - BitVec.ofNat 16 (2 * j)) = v := by
    intro j v hj hv
    obtain ⟨hlt, hget⟩ := List.getElem?_eq_some_iff.1 hv
    obtain ⟨k, rfl⟩ : ∃ k, j = k + 1 := ⟨_, (Nat.sub_add_cancel hj).symm⟩
    rw [sub_two_sub_ofNat, hwords (k + 1) (Nat.succ_lt_succ hlt)]
    exact hget
  generalize s.pushAll (s.bp :: ws) = u at *
  refine ⟨_, hexec, rfl, congrArg (· - size) hsp, hwords 0 (by simp), fun hpos => hbelow n _ hpos (hlast hpos),
    fun hapart j hj hjn => hbelow j _ hj ?_, houtside, ?_⟩
  · have hword := hcopied hapart (j - 1) (by omega)
    rwa [Nat.sub_add_cancel hj] at hword
  · rw [honly]

/-- DISPOSE pops BP from where BP points (R649). -/
theorem exec_dispose (s : State) :
    exec .dispose s = .next { s with bp := s.readWord s.ss s.bp, sp := s.bp + 2 } := rfl

end Sys2Proof.Machine

open Sys2Proof Sys2Proof.Machine

/-- Settles O43: each form is one push. -/
theorem pushesStoreBelowTheStackPointer : Obligations.PushesStoreBelowTheStackPointer := by
  intro r m sr i imm
  have hreg : ∀ s : State, Host.Outcome.next (s.push (s.pushedReg r)) = (.next (s.push (s.getReg16 r)) : Result) :=
    fun s => by rw [s.pushedReg_eq]
  exact ⟨.intro fun _ => rfl, .intro hreg, .intro hreg, .intro fun _ => rfl, .intro fun _ => rfl,
    .intro fun _ => rfl, .intro fun _ => rfl⟩

/-- Settles O44: each form is a pop and a write of its destination. -/
theorem popsLoadFromTheStackPointer : Obligations.PopsLoadFromTheStackPointer := by
  refine fun s r m sr => ⟨fun i hi => ?_, exec_popMem16 m, exec_popSreg, rfl⟩
  obtain rfl | rfl := hi
  · exact exec_popReg rfl
  · exact exec_popReg rfl

/-- Settles O45: PUSH R is the pushes of a list of eight words. -/
theorem registerSetPushedAndPopped : Obligations.RegisterSetPushedAndPopped := by
  refine ⟨fun _ => ⟨rfl, rfl⟩, fun s => ⟨fun hs => ?_, exec_popR s⟩⟩
  obtain ⟨hsp, hwords, houtside, honly, -⟩ :=
    State.pushAll_spec [s.aw, s.cw, s.dw, s.bw, s.sp, s.bp, s.ix, s.iy] s hs (by simp)
  exact ⟨_, exec_pushR s, hsp, hwords 0 (by simp), hwords 1 (by simp), hwords 2 (by simp), hwords 3 (by simp),
    hwords 4 (by simp), hwords 5 (by simp), hwords 6 (by simp), hwords 7 (by simp), houtside, honly⟩

/-- Settles O46: PREPARE is the pushes of BP and of the words of the frame; DISPOSE finds BP where PREPARE has
left it. -/
theorem prepareAndDispose : Obligations.PrepareAndDispose := by
  refine ⟨fun s size level hs => ?_, exec_dispose, fun s t size level hs ht => ?_⟩
  · obtain ⟨t, ht, hbp, hsp, hold, hbase, hcopied, hrest⟩ := exec_prepare_spec hs size level
    refine ⟨t, ht, hbp, hsp, hold, hbase, fun hapart => hcopied fun j k hj hk => ?_, hrest⟩
    rw [← sub_two_sub_ofNat]
    exact hapart j k hj hk
  · obtain ⟨t', ht', hbp, -, hold, -, -, -, honly⟩ := exec_prepare_spec hs size level
    obtain rfl : t = t' := Host.Outcome.next.inj (ht.symm.trans ht')
    have hss : t.ss = s.ss := by rw [honly]
    rw [exec_dispose, hss, hbp, hold, BitVec.sub_add_cancel]
    congr 1
    rw [honly]

end

section
/-! SUPPORT. Software breaks, the return from an interrupt and CPU control (R671 to R703), the entries and returns of
the emulation mode (R675, R727, R728), and what a boundary and standby accept (R763 to R770, R783 to R786). -/

namespace Sys2Proof.Machine

/-! ## CHKIND -/

/-- The comparison of CHKIND is that of signed numbers (R676, P6). -/
theorem chkindLess_iff (a b : Word) : chkindLess a b = true ↔ a.toInt < b.toInt := BitVec.slt_iff_toInt_lt

/-- CHKIND breaks where the index is below the lower limit or above the upper one (R88, R676). -/
theorem exec_chkind (r : Reg) (m : Mem) (s : State) :
    let index := (s.getReg16 r).toInt
    let lower := (s.readWord (s.segOf m) (s.ea m)).toInt
    let upper := (s.readWord (s.segOf m) (BitVec.ofNat 16 ((s.ea m).toNat + 2))).toInt
    exec (.chkind r m) s = .next (if index < lower ∨ upper < index then s.interrupt 5 else s) := by
  dsimp only
  rw [ofNat_add_two]
  show execChkind r m s = _
  simp only [execChkind, Bool.or_eq_true, chkindLess_iff]
  rfl

/-! ## Returns -/

/-- Two and three pops move SP by 4 and by 6 (R631). -/
theorem add_popped (x : Word) : x + 4 = x + 2 + 2 ∧ x + 6 = x + 2 + 2 + 2 := by
  constructor <;> bv_omega

/-- What RETI does (R674, R754): three words from the stack, MD of the third only under its write enable (R54). -/
theorem exec_reti (s : State) :
    let w := s.readWord s.ss (s.sp + 4)
    exec .reti s = .next { s with
      pc := s.readWord s.ss s.sp, ps := s.readWord s.ss (s.sp + 2), sp := s.sp + 6, queue := []
      psw := { Psw.ofImage w with md := if s.mdWe then w.getLsbD 15 else true } } := by
  obtain ⟨htwo, hthree⟩ := add_popped s.sp
  rw [htwo, hthree]
  rfl

/-- What RETEM does (R728). -/
theorem exec_retem (s : State) :
    exec .retem s = .next { s with
      pc := s.readWord s.ss s.sp, ps := s.readWord s.ss (s.sp + 2), sp := s.sp + 6, queue := []
      psw := Psw.ofImage (s.readWord s.ss (s.sp + 4)), mdWe := false } := by
  obtain ⟨htwo, hthree⟩ := add_popped s.sp
  rw [htwo, hthree]
  rfl

/-- The highest bit of the image is MD (R40). -/
theorem Psw.getLsbD_image_md (f : Psw) : f.image.getLsbD 15 = f.md := congrArg Psw.md f.ofImage_image

/-- The image of flags that are in force is loaded as these flags: MD is 1 or may be written (R54). -/
theorem Psw.ofImage_image_md {f : Psw} {we : Bool} (h : f.md = true ∨ we = true) :
    { Psw.ofImage f.image with md := if we then f.image.getLsbD 15 else true } = f := by
  have hmd : (if we then f.md else true) = f.md := by
    obtain h | h := h <;> simp [h]
  rw [f.ofImage_image, f.getLsbD_image_md, hmd]

/-- RETI right after the entry of an interrupt finds the frame that the entry has pushed (R674, R750). -/
theorem exec_reti_of_interrupted {s t : State} {n : Byte} (h : Interrupted n s t)
    (hmd : s.psw.md = true ∨ s.mdWe = true) : exec .reti t = .next { s with mem := t.mem, queue := [] } := by
  obtain ⟨⟨hsp, himage, hps, hpc, -⟩, -, -, honly⟩ := h
  have hss : t.ss = s.ss := by rw [honly]
  have hwe : t.mdWe = s.mdWe := by rw [honly]
  have h2 : s.sp - 6 + 2 = s.sp - 4 := by bv_omega
  have h4 : s.sp - 6 + 4 = s.sp - 2 := by bv_omega
  have h6 : s.sp - 6 + 6 = s.sp := by bv_omega
  rw [exec_reti, hss, hwe, hsp, h2, h4, h6, himage, hps, hpc, Psw.ofImage_image_md hmd]
  congr 1
  rw [honly]

/-! ## Entries of another mode -/

/-- A vector entered after a frame, with the flags and the write enable of MD as the entry makes them (R675, R727). -/
theorem FramePushed.enterVector {image : Word} {s p : State} (h : FramePushed image s p)
    (honly : p = { s with sp := p.sp, mem := p.mem }) (f : Psw) (we : Bool) (n : Byte) :
    let t := { p with psw := f, mdWe := we }.enterVector n
    FramePushed image s t ∧ AtVector n t ∧ t.psw = f ∧ t.mdWe = we ∧
      t = { s with
        sp := t.sp, mem := t.mem, psw := t.psw, mdWe := t.mdWe, ps := t.ps, pc := t.pc, queue := t.queue } := by
  refine ⟨h, State.enterVector_spec _ n, rfl, rfl, ?_⟩
  rw [honly]
  rfl

/-- BRKEM is refused while the write enable of MD is set (R732). -/
theorem exec_brkem_of_mdWe {s : State} (h : s.mdWe = true) (n : Byte) :
    exec (.brkem n) s = .refused .brkemNested := if_pos h

/-- BRKEM where the write enable of MD is clear (R675). -/
theorem exec_brkem_of_not_mdWe {s : State} (h : s.mdWe = false) (n : Byte) :
    exec (.brkem n) s =
      .next ({ s.pushFrame with psw := { s.psw with md := false }, mdWe := true }.enterVector n) :=
  if_neg (by simp [h])

/-- CALLN (R727). -/
theorem exec_calln (n : Byte) (s : State) :
    exec (.calln n) s =
      .next ({ s.pushFrame with psw := { s.psw with md := true }, mdWe := s.mdWe }.enterVector n) := rfl

/-! ## The 8080's reach -/

/-- The segment of DS0 after an 8080 instruction is as the instruction left it (R725). -/
theorem State.readByte_after8080 {s : State} (hs : Memory.wf s.mem = true) (t : State) (a : Word) :
    (s.after8080 t).readByte s.ds0 a = t.readByte s.ds0 a := by
  obtain ⟨-, hreached, -⟩ := State.after8080_memory hs t
  exact hreached a

/-- The byte registers of AW after an 8080 instruction: AL is the instruction's, AH as before (R723). -/
theorem State.after8080_halves (s t : State) :
    (s.after8080 t).getReg8 .al_aw = t.getReg8 .al_aw ∧ (s.after8080 t).getReg8 .ah_sp = s.getReg8 .ah_sp := by
  obtain ⟨haw, -⟩ := s.after8080_regs t
  simp only [State.getReg8, haw, loByte_mkWord, hiByte_mkWord, and_self]

/-! ## POLL -/

/-- The first byte of an instruction of one byte, prefixes included, as a number (R38, R135). -/
theorem State.toNat_startOfOneByte (s : State) :
    (s.startOfOneByte.toNat : Int) = (s.pc.toNat - (1 + s.pfx.count) : Int) % 65536 := by
  unfold State.startOfOneByte
  bv_omega

/-! ## Boundary and standby -/

/-- With nothing more to sample the pins stay as they are (R745). -/
theorem State.sample_of_inputs_nil {s : State} (h : s.inputs = []) : s.sample = s := by
  simp [State.sample, h]

/-- The boundary after an instruction that has not been suspended, with nothing more to sample. -/
theorem State.boundary_eq_accept {s : State} (hu : s.suspended = false) (hi : s.inputs = []) (b : Bool) :
    s.boundary b = s.accept b := by
  simp [State.boundary, hu, State.sample_of_inputs_nil hi]

/-- INT is acceptable where the level is high, IE set and no window open (R761). -/
theorem State.intAcceptable_iff (s : State) :
    s.intAcceptable = true ↔
      s.pins.intLevel = true ∧ s.psw.ie = true ∧ s.inhibitAll = false ∧ s.inhibitInt = false := by
  simp [State.intAcceptable, and_assoc]

section Accept

variable {s : State} {b : Bool}

/-- A reset and the window of R765 keep everything out (R763). -/
theorem State.accept_of_closed (h : s.pins.reset = true ∨ s.inhibitAll = true) : s.accept b = s := by
  obtain h | h := h <;> simp [State.accept, h]

/-- NMI goes first (R763). -/
theorem State.accept_of_nmi (hr : s.pins.reset = false) (ha : s.inhibitAll = false) (hn : s.nmiPending = true) :
    s.accept b = s.takeNmi := by
  simp [State.accept, hr, ha, hn]

/-- INT comes after NMI (R763). -/
theorem State.accept_of_int (hr : s.pins.reset = false) (hn : s.nmiPending = false) (hi : s.intAcceptable = true) :
    s.accept b = s.takeInt := by
  obtain ⟨-, -, ha, -⟩ := s.intAcceptable_iff.1 hi
  simp [State.accept, hr, ha, hn, hi]

/-- The single-step break comes last (R763, R770). -/
theorem State.accept_of_none (hr : s.pins.reset = false) (ha : s.inhibitAll = false) (hn : s.nmiPending = false)
    (hi : s.intAcceptable = false) : s.accept b = if b then s.takeSingleStep else s := by
  simp [State.accept, hr, ha, hn, hi]

end Accept

/-- A step in standby with nothing more to sample (R785, R786). -/
theorem step_of_halted {s : State} (hh : s.halted = true) (hr : s.pins.reset = false) (hi : s.inputs = []) :
    step s = .next
      (if s.nmiPending then s.takeNmi
      else if s.pins.intLevel then if s.psw.ie then s.takeInt else { s with halted := false }
      else s) := by
  have hsample := State.sample_of_inputs_nil hi
  simp [step, stepWith, State.standbyStep, hsample, hh, hr]

/-- NMI taken is the entry of vector 2, with the latch cleared and standby left (R760, R785). -/
theorem State.takeNmi_spec {s : State} (hs : Memory.wf s.mem = true) :
    Interrupted 2 { s with nmiPending := false, halted := false } s.takeNmi :=
  State.interrupt_spec (s := { s with nmiPending := false, halted := false }) hs 2

/-- INT taken is the entry of the vector that the acknowledge cycle names (R761, R762). -/
theorem State.takeInt_spec {s : State} (hs : Memory.wf s.mem = true) :
    Interrupted s.pins.intVector { s with halted := false } s.takeInt :=
  State.interrupt_spec (s := { s with halted := false }) hs s.pins.intVector

/-- The single-step break is the entry of vector 1 (R770). -/
theorem State.takeSingleStep_spec {s : State} (hs : Memory.wf s.mem = true) :
    Interrupted 1 { s with halted := false } s.takeSingleStep :=
  State.interrupt_spec (s := { s with halted := false }) hs 1

end Sys2Proof.Machine

open Sys2Proof Sys2Proof.Machine

/-- Settles O47: each break is the entry of its vector; CHKIND is one exactly outside its limits. -/
theorem softwareBreaksAndChkind : Obligations.SoftwareBreaksAndChkind := by
  refine ⟨fun s n hs => ?breaks, fun s r m hs => ?chkind⟩
  case breaks =>
    have brkv : exec .brkv s = .next (if s.psw.v then s.interrupt 4 else s) := rfl
    refine ⟨⟨_, rfl, State.interrupt_spec hs 3⟩, ⟨_, rfl, State.interrupt_spec hs n⟩, fun hv => ?_, fun hv => ?_⟩
    · exact ⟨_, by rw [brkv, if_pos hv], State.interrupt_spec hs 4⟩
    · rw [brkv, if_neg (by simp [hv])]
  case chkind =>
    intro index lower upper
    refine ⟨fun hlower hupper => ?_, fun hout => ⟨_, ?_, State.interrupt_spec hs 5⟩⟩
    · exact (exec_chkind r m s).trans (congrArg _ (if_neg (not_or.2 ⟨Int.not_lt.2 hlower, Int.not_lt.2 hupper⟩)))
    · exact (exec_chkind r m s).trans (congrArg _ (if_pos hout))

/-- Settles O48: the three words that RETI pops are those that the entry of an interrupt pushes. -/
theorem retiReturnsFromAnInterrupt : Obligations.RetiReturnsFromAnInterrupt :=
  ⟨exec_reti, fun _ n hs hmd => exec_reti_of_interrupted (State.interrupt_spec hs n) hmd⟩

/-- Settles O49: BRKEM and CALLN are a frame and a vector with their own MD, RETEM pops the frame, and the rest is what
`State.after8080` takes from an 8080 instruction. -/
theorem emulationModeEntriesAndReturns : Obligations.EmulationModeEntriesAndReturns := by
  refine ⟨fun s n => ⟨fun hwe => exec_brkem_of_mdWe hwe n, fun hwe hs => ?brkem⟩,
    fun s n => ⟨fun hs => ?calln, exec_retem s⟩, fun s a k => ?parts, fun s t hs => ?reach⟩
  case brkem =>
    have hentry := (State.pushFrame_spec hs).enterVector (State.pushFrame_only hs) { s.psw with md := false } true n
    exact ⟨_, exec_brkem_of_not_mdWe hwe n, hentry⟩
  case calln =>
    obtain ⟨hframe, hvector, hpsw, hwe, honly⟩ :=
      (State.pushFrame_spec hs).enterVector (State.pushFrame_only hs) { s.psw with md := true } s.mdWe n
    rw [hwe] at honly
    exact ⟨_, exec_calln n s, hframe, hvector, hpsw, honly⟩
  case parts => exact ⟨rfl, rfl, rfl, rfl, rfl, rfl, rfl, rfl, toNat_loByte _, rfl, rfl⟩
  case reach =>
    obtain ⟨hal, hah⟩ := s.after8080_halves t
    obtain ⟨-, hbw, hcw, hdw⟩ := s.after8080_regs t
    obtain ⟨hwf, -, houtside⟩ := State.after8080_memory hs t
    exact ⟨hal, hah, hbw, hcw, hdw, rfl, rfl, rfl, rfl, rfl, rfl, rfl, rfl, rfl, s.after8080_psw t, rfl, rfl, rfl, rfl,
      rfl, hwf, State.readByte_after8080 hs t, houtside⟩

/-- Settles O52: all but POLL are one update of the state or none; POLL with the pin high goes back to its first
byte. -/
theorem cpuControlInstructions : Obligations.CpuControlInstructions := by
  intro s x y z b m
  have poll : exec .poll s = .next (if s.pins.pollHigh then s.retryOneByte else s) := rfl
  refine ⟨rfl, rfl, rfl, rfl, fun hlow => ?low, fun hhigh => ?high, rfl, rfl, rfl, rfl⟩
  case low => rw [poll, if_neg (by simp [hlow])]
  case high => exact ⟨_, by rw [poll, if_pos hhigh], s.toNat_startOfOneByte, rfl⟩

/-- Settles O56: the boundary is one acceptance, which tries reset, the window, NMI, INT and single step in this
order. -/
theorem boundaryAcceptsAtMostOne : Obligations.BoundaryAcceptsAtMostOne := by
  intro s brk hs hu hi
  rw [State.boundary_eq_accept hu hi]
  refine ⟨State.accept_of_closed, fun hr ha => ⟨fun hn => ?nmi, fun hn hlevel hie hei => ?int, fun hn hno => ?none⟩⟩
  case nmi =>
    rw [State.accept_of_nmi hr ha hn]
    exact State.takeNmi_spec hs
  case int =>
    rw [State.accept_of_int hr hn (s.intAcceptable_iff.2 ⟨hlevel, hie, ha, hei⟩)]
    exact State.takeInt_spec hs
  case none =>
    have hint : s.intAcceptable = false := by
      obtain h | h | h := hno <;> simp [State.intAcceptable, h]
    rw [State.accept_of_none hr ha hn hint]
    refine ⟨fun hb => ?_, fun hb => if_neg (by simp [hb])⟩
    rw [if_pos hb]
    exact State.takeSingleStep_spec hs

/-- Settles O57: a step in standby is one of the four branches of `step_of_halted`. -/
theorem standbyEndsByNmiOrInt : Obligations.StandbyEndsByNmiOrInt := by
  intro s hs hh hr hi
  rw [step_of_halted hh hr hi]
  refine ⟨fun hn => ?nmi, fun hn hlevel hie => ?int, fun hn hlevel hie => ?masked, fun hn hlevel => ?idle⟩
  case nmi => exact ⟨_, by rw [if_pos hn], State.takeNmi_spec hs⟩
  case int => exact ⟨_, by simp [hn, hlevel, hie], State.takeInt_spec hs⟩
  case masked => simp [hn, hlevel, hie]
  case idle => simp [hn, hlevel]

end
